-- ==== Sys2Proof/Word.lean ====
section
/-! DEFINITION. The word types of the block, with the widths of 10_state.md R21 and 30_encoding.md R71.
All values are unsigned (00_scope.md R9). -/

namespace Sys2Proof

/-- A byte, the operand `DATA` and a buffer cell. -/
abbrev Byte := BitVec 8

/-- A command word `CMD[11:0]` (30_encoding.md R71). -/
abbrev Word := BitVec 12

/-- A CRC value, the width of `CRCACC` and `TXCRC`. -/
abbrev Crc := BitVec 16

/-- A timer count, `CNT_W` = 32 bits (00_scope.md R7). -/
abbrev Count := BitVec 32

/-- The width `CNT_W` of the two timer counters; its only legal value (00_scope.md R7). -/
abbrev cntW : Nat := 32

/-- The capacity `BUF_CAP` of the accumulation buffer; its only legal value (00_scope.md R7, 90_conflicts.md C2). -/
abbrev bufCap : Nat := 256

end Sys2Proof
end

