-- ==== Sys2Proof/Machine/Operands.lean ====
section
/-! DEFINITION. The operand forms: the two fields of a command word (30_encoding.md R71) and the widening
of the byte operand where it enters a CRC (00_scope.md R9, 41_crc_engine.md R110). -/

namespace Sys2Proof.Machine

/-- `CMD[11:8]`, the field `OP` (30_encoding.md R71). -/
def cmdOp (w : Word) : BitVec 4 := w.extractLsb' 8 4

/-- `CMD[7:0]`, the field `DATA`, an unsigned byte used as it stands (30_encoding.md R71). -/
def cmdData (w : Word) : Byte := w.extractLsb' 0 8

/-- The word with the given `OP` and `DATA` fields (30_encoding.md R71). -/
def cmdWord (op : BitVec 4) (d : Byte) : Word := op ++ d

/-- `zext_16(v)`: a byte widened to 16 bits with zeros (00_scope.md R9). -/
def zext16 (b : Byte) : Crc := b.setWidth 16

/-- Bits 7:0 of a CRC, the byte that goes first on the line (20_memory.md R53). -/
def crcLow (c : Crc) : Byte := c.extractLsb' 0 8

/-- Bits 15:8 of a CRC, the byte that goes second on the line (20_memory.md R53). -/
def crcHigh (c : Crc) : Byte := c.extractLsb' 8 8

/-- The two bytes of a CRC in wire order, low byte first: "CRC16-LE" (20_memory.md R53, 30_encoding.md R78). -/
def crcWireBytes (c : Crc) : List Byte := [crcLow c, crcHigh c]

/-- `{hi, lo}`: two bytes as a 16-bit value, `hi` in bits 15:8 (00_scope.md R9). -/
def joinBytes (hi lo : Byte) : Crc := hi ++ lo

end Sys2Proof.Machine
end

