-- ==== Sys2Proof/Machine/CrcEngine.lean ====
section
/-! DEFINITION. The CRC Engine: the pure functions of 41_crc_engine.md R110 to R113. -/

namespace Sys2Proof.Machine

/-- The polynomial in reflected form (30_encoding.md R79). -/
def crcPoly : Crc := 0xA001

/-- The initial value (30_encoding.md R79). -/
def crcInit : Crc := 0xFFFF

/-- `crc_bit` (41_crc_engine.md R110). -/
def crcBit (c : Crc) : Crc := if c.getLsbD 0 then (c >>> 1) ^^^ crcPoly else c >>> 1

/-- `n` applications of `crc_bit`. -/
def crcBits : Nat → Crc → Crc
  | 0, c => c
  | n + 1, c => crcBits n (crcBit c)

/-- `crc_step` (41_crc_engine.md R110). -/
def crcStep (c : Crc) (b : Byte) : Crc := crcBits 8 (c ^^^ zext16 b)

/-- `crc16`: the left fold of `crc_step` from the initial value (41_crc_engine.md R112). -/
def crc16 (bs : List Byte) : Crc := bs.foldl crcStep crcInit

/-- `verify` (41_crc_engine.md R113): the high byte is the last one; false for fewer than two bytes. -/
def verify (f : List Byte) : Bool :=
  if f.length < 2 then false
  else crc16 (f.take (f.length - 2)) == joinBytes (f.getD (f.length - 1) 0) (f.getD (f.length - 2) 0)

/-- The table form of 41_crc_engine.md R110: `TAB[v] = crc_step(0x0000, v)`. -/
def crcTable (v : Byte) : Crc := crcStep 0x0000 v

end Sys2Proof.Machine
end

