-- ==== Sys2Proof/Config.lean ====
section
/-! DEFINITION. The construction-time constants of 00_scope.md R7, and the one free value of the model.
What is derived from the constants (40_timing_unit.md R91 to R94) stands in Machine/TimingUnit.lean. -/

namespace Sys2Proof

/-- The parameters of 00_scope.md R7 that have more than one legal value.
`BUF_CAP` and `CNT_W` have one each and are `bufCap` and `cntW`.
`baud` has no default in the spec and must be given; the other defaults are the spec's. -/
structure Config where
  /-- `BAUD`, line rate in bits per second. -/
  baud : Nat
  /-- `DATA_BITS`, data bits per character. -/
  dataBits : Nat := 8
  /-- `PARITY_BITS`, 1 if the format has a parity bit of any kind, else 0. -/
  parityBits : Nat := 1
  /-- `STOP_BITS`, stop bits per character. -/
  stopBits : Nat := 1
  /-- `TICK_HZ`, ticks of the time base per second. -/
  tickHz : Nat := 1000000
  deriving DecidableEq, Repr

/-- The configuration of `State.reset`: the one 95_test_vectors.md uses throughout.
DESIGN CHOICE (log 1), unsafe: the spec says `BAUD` "must be given" and names no default for it. -/
def Config.standard : Config := { baud := 115200 }

/-- FREE VALUE (log 4), safe: the content of a buffer cell that nothing has written, by its index.
10_state.md R28 and R31 leave it unspecified and 93_implementation_defined.md S1 calls it any value. -/
opaque Config.unspecifiedCell : Nat → Byte

end Sys2Proof
end

