-- ==== Sys2Proof/Syntax.lean ====
section
/-! DEFINITION. The twelve commands of 00_scope.md R3, one constructor per row of opcode_table.json.
30_encoding.md R70 allows exactly this: the command as an inductive type. -/

namespace Sys2Proof

/-- A command (00_scope.md R3). The only operand any command has is one byte (30_encoding.md R71). -/
inductive Instr where
  /-- `RX_BYTE d`: the serial link notifies one received byte (42_rtu_framer.md R130). -/
  | rxByte (d : Byte)
  /-- `TICK`: one tick of the time base passes (40_timing_unit.md R98). -/
  | tick
  /-- `T15_EXPIRE`: the expiry of the t1.5 timer as an event (42_rtu_framer.md R135). -/
  | t15Expire
  /-- `T35_EXPIRE`: the expiry of the t3.5 timer as an event (42_rtu_framer.md R138). -/
  | t35Expire
  /-- `CRC_INIT`: start a checksum on the port (41_crc_engine.md R115). -/
  | crcInit
  /-- `CRC_BYTE d`: feed one byte to the port (41_crc_engine.md R116). -/
  | crcByte (d : Byte)
  /-- `TX_BEGIN`: open a transmission (43_transmit.md R161). -/
  | txBegin
  /-- `TX_BYTE d`: transmit one byte (43_transmit.md R162). -/
  | txByte (d : Byte)
  /-- `TX_END`: append the CRC and close the transmission (43_transmit.md R163). -/
  | txEnd
  /-- `TX_ABORT`: release the transmitter (43_transmit.md R164). -/
  | txAbort
  /-- `STOP`: tear the receive side down (44_control.md R176). -/
  | stop
  /-- `RESET`: construct the instance anew (44_control.md R175). -/
  | reset
  deriving DecidableEq, Repr

/-- The two formats of 30_encoding.md R71: `B` with a byte operand, `N` without. -/
inductive Format where
  /-- `DATA` is any byte. -/
  | B
  /-- `DATA` must be 0x00. -/
  | N
  deriving DecidableEq, Repr

/-- The mnemonic of 30_encoding.md R72. -/
def Instr.mnemonic : Instr → String
  | .rxByte _ => "RX_BYTE"
  | .tick => "TICK"
  | .t15Expire => "T15_EXPIRE"
  | .t35Expire => "T35_EXPIRE"
  | .crcInit => "CRC_INIT"
  | .crcByte _ => "CRC_BYTE"
  | .txBegin => "TX_BEGIN"
  | .txByte _ => "TX_BYTE"
  | .txEnd => "TX_END"
  | .txAbort => "TX_ABORT"
  | .stop => "STOP"
  | .reset => "RESET"

/-- The format of each command (30_encoding.md R71, R72). -/
def Instr.format : Instr → Format
  | .rxByte _ => .B
  | .tick => .N
  | .t15Expire => .N
  | .t35Expire => .N
  | .crcInit => .N
  | .crcByte _ => .B
  | .txBegin => .N
  | .txByte _ => .B
  | .txEnd => .N
  | .txAbort => .N
  | .stop => .N
  | .reset => .N

/-- The byte `CMD[7:0]` of a command: its operand in format `B`, 0x00 in format `N` (30_encoding.md R71). -/
def Instr.data : Instr → Byte
  | .rxByte d => d
  | .tick => 0x00
  | .t15Expire => 0x00
  | .t35Expire => 0x00
  | .crcInit => 0x00
  | .crcByte d => d
  | .txBegin => 0x00
  | .txByte d => d
  | .txEnd => 0x00
  | .txAbort => 0x00
  | .stop => 0x00
  | .reset => 0x00

end Sys2Proof
end

