-- ==== Sys2Proof/WellFormed.lean ====
section
/-! DEFINITION. What is well formed: a command, a command word, a configuration.
A command needs no check beyond its type, since its one operand is any byte (30_encoding.md R71). -/

namespace Sys2Proof

/-- The check of a command. Format `B` admits every byte and format `N` has no operand
(30_encoding.md R71), so the type already admits exactly the commands of the opcode map. -/
def Instr.wellFormed : Instr → Bool
  | .rxByte _ => true
  | .tick => true
  | .t15Expire => true
  | .t35Expire => true
  | .crcInit => true
  | .crcByte _ => true
  | .txBegin => true
  | .txByte _ => true
  | .txEnd => true
  | .txAbort => true
  | .stop => true
  | .reset => true

/-- `OP` values that no row of the opcode map uses (30_encoding.md R74). -/
def reservedOp (op : BitVec 4) : Bool := op == 0x0 || op == 0xD || op == 0xE || op == 0xF

/-- `OP` values of format `B` (30_encoding.md R73). -/
def byteOp (op : BitVec 4) : Bool := op == 0x1 || op == 0x6 || op == 0x8

/-- The check of a command word: it is none of the reserved words of 30_encoding.md R74. -/
def wordWellFormed (w : Word) : Bool :=
  !reservedOp (Machine.cmdOp w) && (byteOp (Machine.cmdOp w) || Machine.cmdData w == 0x00)

/-- The check of a configuration: every parameter is in the range of 00_scope.md R7.
That the derived durations fit their counters is the second half of `Config.legal` (00_scope.md R8). -/
def Config.inRange (c : Config) : Bool :=
  (1 ≤ c.baud && c.baud ≤ 4000000) && (5 ≤ c.dataBits && c.dataBits ≤ 8) && c.parityBits ≤ 1 &&
    (1 ≤ c.stopBits && c.stopBits ≤ 2) && 1000000 ≤ c.tickHz

end Sys2Proof
end

