-- ==== Sys2Proof/Decode.lean ====
section
/-! DEFINITION. Decoding of command words, total, rejecting by name (30_encoding.md R73, R74), and after it
the encoder and the opcode map of 30_encoding.md R72. -/

namespace Sys2Proof

open Machine (cmdOp cmdData cmdWord)

/-- The result `Invalid` of 30_encoding.md R73, with the ground for it (30_encoding.md R74). -/
inductive Invalid where
  /-- `OP` is 0x0, 0xD, 0xE or 0xF. -/
  | reservedOpcode
  /-- A format `N` word whose `DATA` is not 0x00. -/
  | nonZeroData
  deriving DecidableEq, Repr

/-- A format `N` word is the command when `DATA` is 0x00 and `Invalid` otherwise (30_encoding.md R73). -/
def decodePlain (d : Byte) (i : Instr) : Except Invalid Instr :=
  if d = 0x00 then .ok i else .error .nonZeroData

/-- `decode` of 30_encoding.md R73. -/
def decode (w : Word) : Except Invalid Instr :=
  match (cmdOp w).toNat with
  | 0x1 => .ok (.rxByte (cmdData w))
  | 0x2 => decodePlain (cmdData w) .tick
  | 0x3 => decodePlain (cmdData w) .t15Expire
  | 0x4 => decodePlain (cmdData w) .t35Expire
  | 0x5 => decodePlain (cmdData w) .crcInit
  | 0x6 => .ok (.crcByte (cmdData w))
  | 0x7 => decodePlain (cmdData w) .txBegin
  | 0x8 => .ok (.txByte (cmdData w))
  | 0x9 => decodePlain (cmdData w) .txEnd
  | 0xA => decodePlain (cmdData w) .txAbort
  | 0xB => decodePlain (cmdData w) .stop
  | 0xC => decodePlain (cmdData w) .reset
  | _ => .error .reservedOpcode

/-- The word of a table row as the host numbers it. A command word has 12 bits (30_encoding.md R71), so a
number with a bit above bit 11 is no command word and is refused, whatever `nbits` says. -/
def decodeTableWord (_nbits w : Nat) : Option Instr :=
  if w < 4096 then
    match decode (BitVec.ofNat 12 w) with
    | .ok i => some i
    | .error _ => none
  else none

/-- The `OP` field of a command (30_encoding.md R72). -/
def Instr.op : Instr → BitVec 4
  | .rxByte _ => 0x1
  | .tick => 0x2
  | .t15Expire => 0x3
  | .t35Expire => 0x4
  | .crcInit => 0x5
  | .crcByte _ => 0x6
  | .txBegin => 0x7
  | .txByte _ => 0x8
  | .txEnd => 0x9
  | .txAbort => 0xA
  | .stop => 0xB
  | .reset => 0xC

/-- `encode` of 30_encoding.md R73: the `match` column of R72 with the operand in bits 7:0. -/
def encode (i : Instr) : Word := cmdWord i.op i.data

/-- A row of the opcode map of 30_encoding.md R72. -/
structure OpcodeRow where
  mnemonic : String
  format : Format
  matchBits : Word
  mask : Word
  deriving DecidableEq, Repr

/-- A word selects the row when `w & mask = match` (30_encoding.md R72). -/
def OpcodeRow.selects (r : OpcodeRow) (w : Word) : Bool := w &&& r.mask == r.matchBits

/-- The opcode map, transcribed from 30_encoding.md R72 (its machine-readable copy is opcode_table.json). -/
def opcodeMap : List OpcodeRow := [
  ⟨"RX_BYTE", .B, 0x100, 0xF00⟩,
  ⟨"TICK", .N, 0x200, 0xFFF⟩,
  ⟨"T15_EXPIRE", .N, 0x300, 0xFFF⟩,
  ⟨"T35_EXPIRE", .N, 0x400, 0xFFF⟩,
  ⟨"CRC_INIT", .N, 0x500, 0xFFF⟩,
  ⟨"CRC_BYTE", .B, 0x600, 0xF00⟩,
  ⟨"TX_BEGIN", .N, 0x700, 0xFFF⟩,
  ⟨"TX_BYTE", .B, 0x800, 0xF00⟩,
  ⟨"TX_END", .N, 0x900, 0xFFF⟩,
  ⟨"TX_ABORT", .N, 0xA00, 0xFFF⟩,
  ⟨"STOP", .N, 0xB00, 0xFFF⟩,
  ⟨"RESET", .N, 0xC00, 0xFFF⟩]

end Sys2Proof
end

