-- ==== Sys2Proof/Machine/State.lean ====
section
/-! DEFINITION. The state of one block instance as plain data (10_state.md R21), what stops a step, the
reset state (10_state.md R31), and the small types the operations over it use. -/

namespace Sys2Proof.Machine

/-- `STATE`, the four named states of the framing state machine (10_state.md R25). -/
inductive Fsm where
  /-- "no partial frame" -/
  | idle
  /-- "accumulating bytes" -/
  | receiving
  /-- "candidate frame is complete" -/
  | frameReady
  /-- Listed by the source, entered by no rule (42_rtu_framer.md R147). -/
  | error
  deriving DecidableEq, Repr

/-- A one-shot timer: the armed flag `A` and the down counter `C` (40_timing_unit.md R96). -/
structure Timer where
  armed : Bool
  count : Count
  deriving DecidableEq, Repr

/-- `BUF`: the cells something has written, as (index, byte) pairs.
A cell that is not listed holds no specified value (10_state.md R28, R31; log 4). -/
abbrev Buffer := List Host.Cell

/-- The two per-step outputs of 00_scope.md R11. -/
structure Output where
  /-- `frame_out`: the frame emitted by the step, if any. -/
  frameOut : Option (List Byte)
  /-- `wire_out`: the bytes the step puts on the line, first byte first. -/
  wireOut : List Byte
  deriving DecidableEq, Repr

/-- The output of a step that neither emits nor wires (00_scope.md R10). -/
def Output.none : Output := { frameOut := Option.none, wireOut := [] }

/-- The causes of `FramingError` (60_exceptions.md R185): names only, stored nowhere (30_encoding.md R76). -/
inductive FramingError where
  | shortFrame
  | crcMismatch
  | overrun
  | gapByte
  deriving DecidableEq, Repr

/-- The state of one block instance. From `fsm` to `run` it is the tuple of 10_state.md R21, "and nothing
else"; the first three fields are the model's own: the constants the spec passes beside the state (log 1),
the command stream the environment presents (log 2), the outputs of the last step (log 3). -/
structure State where
  /-- The construction-time constants (00_scope.md R7). No command changes them. -/
  cfg : Config
  /-- The presented command words not yet executed, the next one first (00_scope.md R3, 10_state.md R23). -/
  stream : List Word
  /-- The per-step outputs of the last step (00_scope.md R11). -/
  out : Output
  /-- `STATE` -/
  fsm : Fsm
  /-- `LEN`, 0 to 256 (10_state.md R22; log 6). -/
  len : Fin (bufCap + 1)
  /-- `OVF` -/
  ovf : Bool
  /-- `BUF` -/
  buf : Buffer
  /-- `T15` -/
  t15 : Timer
  /-- `T35` -/
  t35 : Timer
  /-- `CRCACC` -/
  crcAcc : Crc
  /-- `TXCRC` -/
  txCrc : Crc
  /-- `TXEN` -/
  txEn : Bool
  /-- `RUN` -/
  run : Bool
  deriving DecidableEq, Repr

/-- What stops the block with a fault: nothing. The block has no trap mechanism and every command is defined
on every state (60_exceptions.md R192, 10_state.md R27), so no constructor is raised by any meaning. -/
inductive Fault where
  deriving DecidableEq, Repr

/-- What the model refuses, each by name. -/
inductive Refusal where
  /-- Raised by `exec` for an instruction without a meaning yet. Safe: nothing is claimed of it. -/
  | notModelled (mnemonic : String)
  /-- Raised by `step` on a reserved command word (30_encoding.md R74: "A model should refuse an Invalid
  word"), with the ground. Safe: a stream that holds one has no meaning. -/
  | reservedWord (why : Invalid)
  /-- Raised by `step` under an illegal configuration (00_scope.md R8: "a model refuses it"). Safe. -/
  | illegalConfig
  deriving DecidableEq, Repr

/-- What the block finds when it looks for its next command. -/
inductive Fetched where
  /-- The configuration is illegal. -/
  | illegalConfig
  /-- No command is presented. -/
  | nothing
  /-- The next command word, and the words after it. -/
  | word (w : Word) (rest : List Word)
  deriving DecidableEq, Repr

/-- A timer that is disarmed with a zero count, its reset value (10_state.md R31). -/
def Timer.off : Timer := { armed := false, count := 0 }

/-- The block right after construction with the given constants (10_state.md R31, 70_reset_and_hazards.md R210, R212). -/
def State.construct (c : Config) : State :=
  { cfg := c
    stream := []
    out := Output.none
    fsm := .idle
    len := 0
    ovf := false
    buf := []
    t15 := Timer.off
    t35 := Timer.off
    crcAcc := 0xFFFF
    txCrc := 0xFFFF
    txEn := false
    run := true }

/-- The machine right after reset, with the configuration of log 1 and no command presented. -/
def State.reset : State := State.construct Config.standard

end Sys2Proof.Machine
end

