-- ==== Sys2Proof/Machine/Flags.lean ====
section
/-! DEFINITION. The one-bit state of 10_state.md R24: who sets and who clears each flag.
None is a condition code; the two armed flags change with their timers (`armT15` and its like in Ops.lean). -/

namespace Sys2Proof.Machine

/-- `RUN <- 1`, by `RESET` only (10_state.md R24). -/
def setRun (s : State) : State := { s with run := true }

/-- `RUN <- 0`, by `STOP` only (10_state.md R24). -/
def clearRun (s : State) : State := { s with run := false }

/-- `TXEN <- 1`, by `TX_BEGIN` only (10_state.md R24). -/
def setTxEn (s : State) : State := { s with txEn := true }

/-- `TXEN <- 0`, by `TX_END`, `TX_ABORT`, `RESET` (10_state.md R24). -/
def clearTxEn (s : State) : State := { s with txEn := false }

/-- `OVF <- 1`, by an append to a full buffer (10_state.md R24, 20_memory.md R51). -/
def setOvf (s : State) : State := { s with ovf := true }

/-- `OVF <- 0` (10_state.md R24). -/
def clearOvf (s : State) : State := { s with ovf := false }

end Sys2Proof.Machine
end

