-- ==== Sys2Proof/Machine/TimingUnit.lean ====
section
/-! DEFINITION. The Timing Unit: the constants derived from the configuration (40_timing_unit.md R91 to R94)
and when a configuration is legal (00_scope.md R8). -/

namespace Sys2Proof.Machine

/-- `ceil(p / q)`, equal to `(p + q - 1) div q` (00_scope.md R9). -/
def ceilDiv (p q : Nat) : Nat := (p + q - 1) / q

/-- `CHAR_BITS` (40_timing_unit.md R91). -/
def charBits (c : Config) : Nat := 1 + c.dataBits + c.parityBits + c.stopBits

/-- `T15_RAW`, 1.5 characters in ticks, rounded up (40_timing_unit.md R93). -/
def t15Raw (c : Config) : Nat := ceilDiv (3 * charBits c * c.tickHz) (2 * c.baud)

/-- `T35_RAW`, 3.5 characters in ticks, rounded up (40_timing_unit.md R93). -/
def t35Raw (c : Config) : Nat := ceilDiv (7 * charBits c * c.tickHz) (2 * c.baud)

/-- `FLOOR15`, 750 µs in ticks (40_timing_unit.md R94). -/
def floor15 (c : Config) : Nat := ceilDiv (750 * c.tickHz) 1000000

/-- `FLOOR35`, 1750 µs in ticks (40_timing_unit.md R94). -/
def floor35 (c : Config) : Nat := ceilDiv (1750 * c.tickHz) 1000000

/-- `T15_TICKS` (40_timing_unit.md R94): the floor applies strictly above 19200 baud. -/
def t15Ticks (c : Config) : Nat := if 19200 < c.baud then max (t15Raw c) (floor15 c) else t15Raw c

/-- `T35_TICKS` (40_timing_unit.md R94): the floor applies strictly above 19200 baud. -/
def t35Ticks (c : Config) : Nat := if 19200 < c.baud then max (t35Raw c) (floor35 c) else t35Raw c

/-- A configuration is legal when every parameter is in its range and `T35_TICKS < 2^CNT_W` (00_scope.md R8). -/
def configLegal (c : Config) : Bool := c.inRange && decide (t35Ticks c < 2 ^ cntW)

end Sys2Proof.Machine
end

