-- ==== Sys2Proof/Machine/Ops.lean ====
section
/-! DEFINITION. The named operations over the state that the meanings share: fetching a command, the outputs
of a step, the registers, the buffer, the timers, the discard of a `FramingError`, and the two expiries. -/

namespace Sys2Proof.Machine

/-! ### The command port -/

/-- The next command (00_scope.md R11): none under an illegal configuration, which a model refuses
(00_scope.md R8; log 9), and none while the environment presents nothing (log 2). -/
def fetch (s : State) : Fetched :=
  if configLegal s.cfg then
    match s.stream with
    | [] => .nothing
    | w :: rest => .word w rest
  else .illegalConfig

/-- The state with the command stream replaced. -/
def setStream (ws : List Word) (s : State) : State := { s with stream := ws }

/-- The number `w` as the word the environment presents next. A number with a bit above bit 11 is no
command word (30_encoding.md R71); the reserved all-zero word stands for it, so that it is refused (log 2). -/
def tableWord (w : Nat) : Word := if w < 4096 then BitVec.ofNat 12 w else 0x000

/-! ### The outputs of a step -/

/-- The start of a command: no frame emitted, nothing wired (00_scope.md R10). -/
def beginStep (s : State) : State := { s with out := Output.none }

/-- `emit F` (00_scope.md R10). -/
def emit (f : List Byte) (s : State) : State := { s with out := { s.out with frameOut := some f } }

/-- `wire [b, ...]` (00_scope.md R10). -/
def wire (bs : List Byte) (s : State) : State := { s with out := { s.out with wireOut := bs } }

/-! ### The registers -/

/-- `STATE <- x`, the block's only transfer of control (42_rtu_framer.md R144). -/
def setFsm (x : Fsm) (s : State) : State := { s with fsm := x }

/-- `LEN <- 0` -/
def clearLen (s : State) : State := { s with len := 0 }

/-- `CRCACC <- c` -/
def setCrcAcc (c : Crc) (s : State) : State := { s with crcAcc := c }

/-- `TXCRC <- c` -/
def setTxCrc (c : Crc) (s : State) : State := { s with txCrc := c }

/-! ### The buffer -/

/-- The content of cell `a`: the byte last written there, and none where nothing has been written. -/
def bufRead : Buffer → Nat → Option Byte
  | [], _ => none
  | c :: cs, a => if c.1 = a then some c.2 else bufRead cs a

/-- `BUF[a] <- b`, keeping the cells in rising order of index with one entry each. -/
def bufWrite : Buffer → Nat → Byte → Buffer
  | [], a, b => [(a, b)]
  | c :: cs, a, b =>
    if a < c.1 then (a, b) :: c :: cs
    else if a = c.1 then (a, b) :: cs
    else c :: bufWrite cs a b

/-- The indices rise strictly from at least `lo`, and each is below `bufCap`. -/
def bufWfFrom : Nat → Buffer → Bool
  | _, [] => true
  | lo, c :: cs => decide (lo ≤ c.1) && decide (c.1 < bufCap) && bufWfFrom (c.1 + 1) cs

/-- The canonical form of the buffer: strictly rising indices, all of them 0 to 255 (20_memory.md R59). -/
def bufWf (m : Buffer) : Bool := bufWfFrom 0 m

/-- `BUF[i]` as the frame read-out sees it: a cell nothing has written is the free value of log 4. -/
def bufByte (m : Buffer) (i : Nat) : Byte := (bufRead m i).getD (Config.unspecifiedCell i)

/-- `BUF[0 .. LEN-1]`, the frame read-out, the only load (20_memory.md R52). -/
def frameBytes (s : State) : List Byte := (List.range s.len.val).map (bufByte s.buf)

/-- `append(b)`, the only store (20_memory.md R51). -/
def append (b : Byte) (s : State) : State :=
  if h : s.len.val < bufCap then
    { s with buf := bufWrite s.buf s.len.val b, len := ⟨s.len.val + 1, Nat.succ_lt_succ h⟩ }
  else setOvf s

/-- The index `append` stores to: the old `LEN` while the buffer has room, no cell otherwise (20_memory.md R51). -/
def appendIndex (s : State) : Option Nat := if s.len.val < bufCap then some s.len.val else none

/-- `LEN <- 0 ; OVF <- 0`: whatever was accumulated is dropped. -/
def clearFrame (s : State) : State := clearOvf (clearLen s)

/-! ### The timers -/

/-- `arm(T, n)` (40_timing_unit.md R96). -/
def Timer.armedWith (n : Nat) : Timer := { armed := true, count := BitVec.ofNat cntW n }

/-- `T.C <- T.C - 1`, modulo 2^32 (40_timing_unit.md R98 corner case (e)). -/
def Timer.countDown (t : Timer) : Timer := { t with count := t.count - 1 }

/-- `arm(T15, T15_TICKS)`: "start" and "restart" (40_timing_unit.md R96, R97). -/
def armT15 (s : State) : State := { s with t15 := Timer.armedWith (t15Ticks s.cfg) }

/-- `arm(T35, T35_TICKS)` (40_timing_unit.md R96, R97). -/
def armT35 (s : State) : State := { s with t35 := Timer.armedWith (t35Ticks s.cfg) }

/-- `stop(T15)` (40_timing_unit.md R96). -/
def stopT15 (s : State) : State := { s with t15 := Timer.off }

/-- `stop(T35)` (40_timing_unit.md R96). -/
def stopT35 (s : State) : State := { s with t35 := Timer.off }

/-- `T15.C <- T15.C - 1` -/
def countT15 (s : State) : State := { s with t15 := s.t15.countDown }

/-- `T35.C <- T35.C - 1` -/
def countT35 (s : State) : State := { s with t35 := s.t35.countDown }

/-! ### The discard -/

/-- `raise FramingError(cause)`: no output, no state recorded, no transfer of control (00_scope.md R10,
60_exceptions.md R186). It is the block's only exception, and it has no handler and no return. -/
def raiseFramingError (_cause : FramingError) (s : State) : State :=
  { s with out := { s.out with frameOut := none } }

/-- The cause for which a candidate frame fails validation, none when it is valid; `OVF` is checked first,
then the length, then the CRC (42_rtu_framer.md R140, 60_exceptions.md R191). -/
def frameCause (f : List Byte) (ovf : Bool) : Option FramingError :=
  if ovf then some .overrun
  else if f.length < 4 then some .shortFrame
  else if verify f then none
  else some .crcMismatch

/-- `valid(F, ovf)` (42_rtu_framer.md R140). -/
def frameValid (f : List Byte) (ovf : Bool) : Bool := (frameCause f ovf).isNone

/-- Emit the candidate frame, or discard it silently (42_rtu_framer.md R139, R141, R142). -/
def emitOrDiscard (f : List Byte) (ovf : Bool) (s : State) : State :=
  match frameCause f ovf with
  | none => emit f s
  | some cause => raiseFramingError cause s

/-! ### The state machine's shared actions -/

/-- `start_frame(d)` (42_rtu_framer.md R130). -/
def startFrame (d : Byte) (s : State) : State :=
  setFsm .receiving (armT15 (stopT35 (append d (clearFrame s))))

/-- `LEN <- 0 ; OVF <- 0 ; STATE <- Idle` (42_rtu_framer.md R139, 44_control.md R175, R176). -/
def toIdle (s : State) : State := setFsm .idle (clearFrame s)

/-- `t15_fire` (42_rtu_framer.md R136, R137). -/
def t15Fire (s : State) : State :=
  match s.fsm with
  | .receiving => armT35 (setFsm .frameReady (stopT15 s))
  | .idle => stopT15 s
  | .frameReady => stopT15 s
  | .error => stopT15 s

/-- `t35_fire` (42_rtu_framer.md R139, R143). -/
def t35Fire (s : State) : State :=
  match s.fsm with
  | .frameReady => toIdle (emitOrDiscard (frameBytes s) s.ovf (stopT35 s))
  | .error => toIdle (stopT35 s)
  | .idle => stopT35 s
  | .receiving => stopT35 s

end Sys2Proof.Machine
end

