-- ==== Sys2Proof/Machine/Control.lean ====
section
/-! DEFINITION. The meanings of `RESET` and `STOP` (44_control.md R175, R176). -/

namespace Sys2Proof.Machine

/-- `RESET` (44_control.md R175). `BUF` is not written; the configuration is not touched. -/
def execReset (s : State) : Host.Outcome State Fault Refusal :=
  .next (setRun (clearTxEn (setTxCrc crcInit (setCrcAcc crcInit
    (stopT35 (stopT15 (toIdle (beginStep s))))))))

/-- `STOP` (44_control.md R176). The transmit side and the CRC port are untouched. -/
def execStop (s : State) : Host.Outcome State Fault Refusal :=
  .next (toIdle (stopT35 (stopT15 (clearRun (beginStep s)))))

end Sys2Proof.Machine
end

