-- ==== Sys2Proof/Machine/CrcPort.lean ====
section
/-! DEFINITION. The meanings of the CRC port's commands (41_crc_engine.md R115, R116). -/

namespace Sys2Proof.Machine

/-- `CRC_INIT` (41_crc_engine.md R115). -/
def execCrcInit (s : State) : Host.Outcome State Fault Refusal :=
  .next (setCrcAcc crcInit (beginStep s))

/-- `CRC_BYTE d` (41_crc_engine.md R116). -/
def execCrcByte (d : Byte) (s : State) : Host.Outcome State Fault Refusal :=
  .next (setCrcAcc (crcStep s.crcAcc d) (beginStep s))

end Sys2Proof.Machine
end

