-- ==== Sys2Proof/Machine/Framer.lean ====
section
/-! DEFINITION. The meanings of `RX_BYTE`, `T15_EXPIRE` and `T35_EXPIRE` (42_rtu_framer.md R130 to R143). -/

namespace Sys2Proof.Machine

/-- `RX_BYTE` with `RUN = 1`, by `STATE` (42_rtu_framer.md R130 to R134).
In `FrameReady` the frame held so far is discarded as `GapByte` before the new one starts (R133). -/
def acceptByte (d : Byte) (s : State) : State :=
  match s.fsm with
  | .idle => startFrame d s
  | .receiving => armT15 (append d s)
  | .frameReady => startFrame d (raiseFramingError .gapByte s)
  | .error => startFrame d s

/-- `RX_BYTE d` (42_rtu_framer.md R130). -/
def execRxByte (d : Byte) (s : State) : Host.Outcome State Fault Refusal :=
  if s.run then .next (acceptByte d (beginStep s)) else .next (beginStep s)

/-- The index of the cell `RX_BYTE` stores to: where `append` stores, in `Receiving` with the `LEN` it finds,
in every other state with the `LEN` that `start_frame` cleared; no cell when the byte is ignored or dropped
(42_rtu_framer.md R130, 20_memory.md R51). -/
def rxStoreIndex (s : State) : Option Nat :=
  if s.run then if s.fsm = .receiving then appendIndex s else appendIndex (clearFrame s) else none

/-- `T15_EXPIRE` (42_rtu_framer.md R135). -/
def execT15Expire (s : State) : Host.Outcome State Fault Refusal :=
  if s.t15.armed then .next (t15Fire (beginStep s)) else .next (beginStep s)

/-- `T35_EXPIRE` (42_rtu_framer.md R138). -/
def execT35Expire (s : State) : Host.Outcome State Fault Refusal :=
  if s.t35.armed then .next (t35Fire (beginStep s)) else .next (beginStep s)

end Sys2Proof.Machine
end

