-- ==== Sys2Proof/Machine/Timing.lean ====
section
/-! DEFINITION. The meaning of `TICK` (40_timing_unit.md R98). -/

namespace Sys2Proof.Machine

/-- The t1.5 half of a tick: with `a15 = 1` the counter counts down and fires at zero (40_timing_unit.md R98). -/
def tickT15 (a15 : Bool) (s : State) : State :=
  if a15 then
    if (countT15 s).t15.count = 0 then t15Fire (countT15 s) else countT15 s
  else s

/-- The t3.5 half of a tick: `a35` was sampled before the t1.5 half, so a `T35` armed in this very tick is
not decremented in it (40_timing_unit.md R98 and its corner case (b)). -/
def tickT35 (a35 : Bool) (s : State) : State :=
  if a35 && s.t35.armed then
    if (countT35 s).t35.count = 0 then t35Fire (countT35 s) else countT35 s
  else s

/-- `TICK` (40_timing_unit.md R98): both armed flags are sampled before anything changes. -/
def execTick (s : State) : Host.Outcome State Fault Refusal :=
  .next (tickT35 s.t35.armed (tickT15 s.t15.armed (beginStep s)))

end Sys2Proof.Machine
end

