-- ==== Sys2Proof/Machine/Transmit.lean ====
section
/-! DEFINITION. The meanings of the transmit commands (43_transmit.md R161 to R164). -/

namespace Sys2Proof.Machine

/-- `TX_BEGIN` (43_transmit.md R161). -/
def execTxBegin (s : State) : Host.Outcome State Fault Refusal :=
  if s.txEn then .next (beginStep s) else .next (setTxCrc crcInit (setTxEn (beginStep s)))

/-- `TX_BYTE d` (43_transmit.md R162). -/
def execTxByte (d : Byte) (s : State) : Host.Outcome State Fault Refusal :=
  if s.txEn then .next (setTxCrc (crcStep s.txCrc d) (wire [d] (beginStep s))) else .next (beginStep s)

/-- `TX_END` (43_transmit.md R163): the CRC low byte first, then `TXEN` falls. -/
def execTxEnd (s : State) : Host.Outcome State Fault Refusal :=
  if s.txEn then .next (clearTxEn (wire (crcWireBytes s.txCrc) (beginStep s))) else .next (beginStep s)

/-- `TX_ABORT` (43_transmit.md R164). -/
def execTxAbort (s : State) : Host.Outcome State Fault Refusal :=
  .next (clearTxEn (beginStep s))

end Sys2Proof.Machine
end

