-- ==== Sys2Proof/Machine/Dispatch.lean ====
section
/-! DEFINITION. One arm per command: the step function of 00_scope.md R11 for a decoded command. -/

namespace Sys2Proof.Machine

def exec (i : Instr) (s : State) : Host.Outcome State Fault Refusal :=
  match i with
  | .rxByte d => Sys2Proof.Machine.execRxByte d s
  | .tick => Sys2Proof.Machine.execTick s
  | .t15Expire => Sys2Proof.Machine.execT15Expire s
  | .t35Expire => Sys2Proof.Machine.execT35Expire s
  | .crcInit => Sys2Proof.Machine.execCrcInit s
  | .crcByte d => Sys2Proof.Machine.execCrcByte d s
  | .txBegin => Sys2Proof.Machine.execTxBegin s
  | .txByte d => Sys2Proof.Machine.execTxByte d s
  | .txEnd => Sys2Proof.Machine.execTxEnd s
  | .txAbort => Sys2Proof.Machine.execTxAbort s
  | .stop => Sys2Proof.Machine.execStop s
  | .reset => Sys2Proof.Machine.execReset s

end Sys2Proof.Machine
end

