-- ==== Sys2Proof/Machine/Step.lean ====
section
/-! DEFINITION. One step of the block: fetch the next presented command, decode it, execute it. -/

namespace Sys2Proof.Machine

/-- One step. A command is taken from the head of the stream and executed to completion (00_scope.md R3, R11);
a reserved word is refused (30_encoding.md R74), an illegal configuration too (00_scope.md R8; log 9).
With no command presented the block waits and holds its state, and the step has no output
(44_control.md R177, 60_exceptions.md R198; log 2). -/
def step (s : State) : Host.Outcome State Fault Refusal :=
  match fetch s with
  | .illegalConfig => .refused .illegalConfig
  | .nothing => .next (beginStep s)
  | .word w rest =>
    match decode w with
    | .error why => .refused (.reservedWord why)
    | .ok i => exec i (setStream rest s)

/-- `s` with the word presented as the next command, ahead of any already presented (log 2). -/
def State.withFetchWord (s : State) (_nbits w : Nat) : State := setStream (tableWord w :: s.stream) s

end Sys2Proof.Machine
end

