-- ==== Sys2Proof/Machine/Discards.lean ====
section
/-! DEFINITION. Which `FramingError` a command raises, and why (60_exceptions.md R185). The block stores no
cause (42_rtu_framer.md R142), so this is a function of command and state beside the step: no meaning reads it
(DEDUCED, log 10, safe). -/

namespace Sys2Proof.Machine

/-- The `FramingError` of a t3.5 expiry: only in `FrameReady`, when validation fails (60_exceptions.md R185). -/
def t35Cause (s : State) : Option FramingError :=
  if s.fsm = .frameReady then frameCause (frameBytes s) s.ovf else none

/-- The state between the two halves of a `TICK`: the t1.5 half is done (40_timing_unit.md R98). -/
def tickMiddle (s : State) : State := tickT15 s.t15.armed (beginStep s)

/-- `TICK` fires `T35` in state `s`: it is armed before and after the t1.5 half and reaches zero
(40_timing_unit.md R98). -/
def tickFiresT35 (s : State) : Bool :=
  s.t35.armed && (tickMiddle s).t35.armed && (countT35 (tickMiddle s)).t35.count == 0

/-- The `FramingError` a command raises in a state, if any (60_exceptions.md R185). -/
def discardCause : Instr → State → Option FramingError
  | .rxByte _, s => if s.run && decide (s.fsm = .frameReady) then some .gapByte else none
  | .tick, s => if tickFiresT35 s then t35Cause (tickMiddle s) else none
  | .t15Expire, _ => none
  | .t35Expire, s => if s.t35.armed then t35Cause s else none
  | .crcInit, _ => none
  | .crcByte _, _ => none
  | .txBegin, _ => none
  | .txByte _, _ => none
  | .txEnd, _ => none
  | .txAbort, _ => none
  | .stop, _ => none
  | .reset, _ => none

end Sys2Proof.Machine
end

