-- ==== Sys2Proof/Machine/Outputs.lean ====
section
/-! DEFINITION. What the outside sees: the level outputs of 10_state.md R30 and the read-only constants of
10_state.md R26. The per-step outputs stand in `State.out`. -/

namespace Sys2Proof.Machine

/-- The number of a state (10_state.md R25, 30_encoding.md R76). -/
def Fsm.code : Fsm → BitVec 2
  | .idle => 0
  | .receiving => 1
  | .frameReady => 2
  | .error => 3

/-- The level outputs, each equal to its state item at all times (10_state.md R30). -/
structure Levels where
  /-- `STATE_OUT` -/
  stateOut : BitVec 2
  /-- `LEN_OUT`, 9 bits wide like `LEN` -/
  lenOut : BitVec 9
  /-- `CRC_OUT` -/
  crcOut : Crc
  /-- `TXEN` -/
  txEn : Bool
  /-- `RUN_OUT` -/
  runOut : Bool
  deriving DecidableEq, Repr

/-- The level outputs of a state (10_state.md R30). -/
def levels (s : State) : Levels :=
  { stateOut := s.fsm.code
    lenOut := BitVec.ofNat 9 s.len.val
    crcOut := s.crcAcc
    txEn := s.txEn
    runOut := s.run }

/-- The read-only constants of 10_state.md R26, in its order: a view, not state, without addresses. -/
structure Constants where
  baud : Nat
  dataBits : Nat
  parityBits : Nat
  stopBits : Nat
  tickHz : Nat
  charBits : Nat
  t15Ticks : Nat
  t35Ticks : Nat
  deriving DecidableEq, Repr

/-- The constants of a configuration (10_state.md R26, 00_scope.md R8). -/
def constants (c : Config) : Constants :=
  { baud := c.baud
    dataBits := c.dataBits
    parityBits := c.parityBits
    stopBits := c.stopBits
    tickHz := c.tickHz
    charBits := charBits c
    t15Ticks := t15Ticks c
    t35Ticks := t35Ticks c }

end Sys2Proof.Machine
end

