-- ==== Sys2Proof/Machine/Run.lean ====
section
/-! DEFINITION. Runs (70_reset_and_hazards.md R214) and the pseudo-commands of 30_encoding.md R75. -/

namespace Sys2Proof.Machine

/-- A run: a finite command list applied from a state; its result is the final state with the sequence of
per-step outputs (70_reset_and_hazards.md R214). None if a command has no next state. -/
def runCommands : List Instr → State → Option (State × List Output)
  | [], s => some (s, [])
  | i :: is, s =>
    match exec i s with
    | .next t =>
      match runCommands is t with
      | some (u, outs) => some (u, t.out :: outs)
      | none => none
    | .fault _ => none
    | .refused _ => none

/-- The frames emitted in a run, in the order of their steps (20_memory.md R61). -/
def framesOf (outs : List Output) : List (List Byte) := outs.filterMap Output.frameOut

/-- The bytes put on the line in a run, first byte first (20_memory.md R61). -/
def wireOf (outs : List Output) : List Byte := outs.flatMap Output.wireOut

/-- The environment presents a stream of commands as words, after those already presented
(70_reset_and_hazards.md R220). -/
def present (cs : List Instr) (s : State) : State := setStream (s.stream ++ cs.map encode) s

/-- `TICK * n` -/
def ticks (n : Nat) : List Instr := List.replicate n .tick

/-- `RX_FRAME b0 b1 ... bk` -/
def rxFrame (bs : List Byte) : List Instr := bs.map .rxByte

/-- The bytes after the first of `RX_FRAME_GAP`, each after `g` ticks. -/
def rxFrameGapTail (g : Nat) (bs : List Byte) : List Instr := bs.flatMap fun b => ticks g ++ [.rxByte b]

/-- `RX_FRAME_GAP g : b0 ... bk`: `g` ticks between consecutive bytes, none after the last. -/
def rxFrameGap (g : Nat) : List Byte → List Instr
  | [] => []
  | b :: bs => .rxByte b :: rxFrameGapTail g bs

/-- `CRC16 b0 ... bk` -/
def crc16Commands (bs : List Byte) : List Instr := .crcInit :: bs.map .crcByte

/-- `TX_FRAME b0 ... bk` -/
def txFrame (bs : List Byte) : List Instr := .txBegin :: (bs.map .txByte ++ [.txEnd])

/-- `SILENCE` -/
def silence : List Instr := [.t15Expire, .t35Expire]

/-- A line of a command stream: a command or a pseudo-command (30_encoding.md R75). -/
inductive StreamItem where
  | command (i : Instr)
  | ticks (n : Nat)
  | rxFrame (bs : List Byte)
  | rxFrameGap (g : Nat) (bs : List Byte)
  | crc16 (bs : List Byte)
  | txFrame (bs : List Byte)
  | silence
  deriving DecidableEq, Repr

/-- What an item expands to (30_encoding.md R75). -/
def expandItem : StreamItem → List Instr
  | .command i => [i]
  | .ticks n => ticks n
  | .rxFrame bs => rxFrame bs
  | .rxFrameGap g bs => rxFrameGap g bs
  | .crc16 bs => crc16Commands bs
  | .txFrame bs => txFrame bs
  | .silence => silence

end Sys2Proof.Machine
end

