-- ==== Sys2Proof/Safety.lean ====
section
/-! DEFINITION. The terms claims use: the invariants of 10_state.md R27, the canonical form of the buffer,
quiescence (70_reset_and_hazards.md R214), reachability, and the event-level view of 40_timing_unit.md R99. -/

namespace Sys2Proof.Machine

/-- The reset values of 10_state.md R31; `BUF` is unspecified there. -/
structure State.HasResetValues (s : State) : Prop where
  fsmIdle : s.fsm = .idle
  lenZero : s.len.val = 0
  ovfClear : s.ovf = false
  t15Disarmed : s.t15.armed = false ∧ s.t15.count = 0
  t35Disarmed : s.t35.armed = false ∧ s.t35.count = 0
  crcAccInitial : s.crcAcc = 0xFFFF
  txCrcInitial : s.txCrc = 0xFFFF
  txEnClear : s.txEn = false
  runSet : s.run = true

/-- The nine invariants of 10_state.md R27, in its order. -/
structure State.Inv (s : State) : Prop where
  lenAtMostCap : s.len.val ≤ bufCap
  idleEmpty : s.fsm = .idle →
    s.len.val = 0 ∧ s.ovf = false ∧ s.t15.armed = false ∧ s.t35.armed = false
  receivingTimed : s.fsm = .receiving →
    1 ≤ s.len.val ∧ s.t15.armed = true ∧ s.t35.armed = false ∧
      1 ≤ s.t15.count.toNat ∧ s.t15.count.toNat ≤ t15Ticks s.cfg
  frameReadyTimed : s.fsm = .frameReady →
    1 ≤ s.len.val ∧ s.t15.armed = false ∧ s.t35.armed = true ∧
      1 ≤ s.t35.count.toNat ∧ s.t35.count.toNat ≤ t35Ticks s.cfg
  notError : s.fsm ≠ .error
  notBothArmed : ¬ (s.t15.armed = true ∧ s.t35.armed = true)
  disarmedZero : (s.t15.armed = false → s.t15.count = 0) ∧ (s.t35.armed = false → s.t35.count = 0)
  overflowFull : s.ovf = true → s.len.val = bufCap
  stoppedIdle : s.run = false → s.fsm = .idle

/-- The buffer is in canonical form and every cell of the frame in progress has been written, so that the
frame read-out meets no unspecified cell. The model's own invariant (log 4). -/
structure State.BufferInv (s : State) : Prop where
  canonical : bufWf s.buf = true
  frameWritten : ∀ i, i < s.len.val → (bufRead s.buf i).isSome = true

/-- Nothing is in progress (70_reset_and_hazards.md R214). -/
def State.quiescent (s : State) : Prop := s.fsm = .idle ∧ s.txEn = false

/-- `t` is reached from construction with the legal constants `c` by some commands (10_state.md R27). -/
def Reachable (c : Config) (t : State) : Prop :=
  configLegal c = true ∧ ∃ cs outs, runCommands cs (State.construct c) = some (t, outs)

/-- The commands that receive some bytes with a number of ticks before each (40_timing_unit.md R98,
42_rtu_framer.md R148). -/
def gappedBytes (ps : List (Nat × Byte)) : List Instr := ps.flatMap fun p => ticks p.1 ++ [.rxByte p.2]

/-- The frame with bit `j` of byte `i` flipped (41_crc_engine.md R114). -/
def flipBit (f : List Byte) (i j : Nat) : List Byte := f.set i (f.getD i 0 ^^^ BitVec.ofNat 8 (2 ^ j))

/-- The event-level view of a state: the two counts are forgotten, the armed flags kept (40_timing_unit.md R99). -/
def eventView (s : State) : State :=
  { s with t15 := { s.t15 with count := 0 }, t35 := { s.t35 with count := 0 } }

/-- The receive side: what `RX_BYTE`, `TICK`, the expiries and `STOP` read and write, with the emitted frame. -/
structure ReceiveSide where
  cfg : Config
  frameOut : Option (List Byte)
  fsm : Fsm
  len : Fin (bufCap + 1)
  ovf : Bool
  buf : Buffer
  t15 : Timer
  t35 : Timer
  run : Bool
  deriving DecidableEq, Repr

/-- The receive side of a state. -/
def receiveSide (s : State) : ReceiveSide :=
  { cfg := s.cfg, frameOut := s.out.frameOut, fsm := s.fsm, len := s.len, ovf := s.ovf, buf := s.buf,
    t15 := s.t15, t35 := s.t35, run := s.run }

/-- The transmit side: what the four `TX_` commands read and write, with the wired bytes. -/
structure TransmitSide where
  wireOut : List Byte
  txCrc : Crc
  txEn : Bool
  deriving DecidableEq, Repr

/-- The transmit side of a state. -/
def transmitSide (s : State) : TransmitSide :=
  { wireOut := s.out.wireOut, txCrc := s.txCrc, txEn := s.txEn }

/-- The commands of the transmit family (43_transmit.md). -/
def isTransmit : Instr → Bool
  | .rxByte _ => false
  | .tick => false
  | .t15Expire => false
  | .t35Expire => false
  | .crcInit => false
  | .crcByte _ => false
  | .txBegin => true
  | .txByte _ => true
  | .txEnd => true
  | .txAbort => true
  | .stop => false
  | .reset => false

/-- The commands of the time base: `TICK` and the two expiries (40_timing_unit.md R99). -/
def isTiming : Instr → Bool
  | .rxByte _ => false
  | .tick => true
  | .t15Expire => true
  | .t35Expire => true
  | .crcInit => false
  | .crcByte _ => false
  | .txBegin => false
  | .txByte _ => false
  | .txEnd => false
  | .txAbort => false
  | .stop => false
  | .reset => false

end Sys2Proof.Machine
end

