-- ==== Sys2Proof/Certificates/Slice0/Obligations.lean ====
section
/-! DEFINITION. The statements for the provers. Each docstring names the rules of the spec it rests on. -/

open Sys2Proof Sys2Proof.Machine

/-! ### Reset -/

/-- 10_state.md R31: construction, and the command `RESET` on any state, give the reset values. -/
def Obligations.ConstructionAndResetGiveTheResetValues : Prop :=
  (∀ c : Config, (State.construct c).HasResetValues) ∧
    ∀ s : State, ∃ t, exec .reset s = .next t ∧ t.HasResetValues

/-! ### Encoding -/

/-- Words written out from 30_encoding.md R72 decode to the commands they stand for (V69 to V75). -/
def Obligations.SampleWordsDecode : Prop :=
  decode 0b0001_00100000 = .ok (.rxByte 0x20) ∧
  decode 0b0001_11111111 = .ok (.rxByte 0xFF) ∧
  decode 0b0010_00000000 = .ok .tick ∧
  decode 0b0011_00000000 = .ok .t15Expire ∧
  decode 0b0100_00000000 = .ok .t35Expire ∧
  decode 0b0101_00000000 = .ok .crcInit ∧
  decode 0b0110_00110001 = .ok (.crcByte 0x31) ∧
  decode 0b0111_00000000 = .ok .txBegin ∧
  decode 0b1000_01111000 = .ok (.txByte 0x78) ∧
  decode 0b1001_00000000 = .ok .txEnd ∧
  decode 0b1010_00000000 = .ok .txAbort ∧
  decode 0b1011_00000000 = .ok .stop ∧
  decode 0b1100_00000000 = .ok .reset ∧
  decode 0b0000_00000000 = .error .reservedOpcode ∧
  decode 0b1011_00010000 = .error .nonZeroData

/-- 30_encoding.md R73: `encode` lays out the match column with the operand in bits 7:0, decoding an encoded
command gives it back, and every word that decodes is the encoding of what it decodes to. -/
def Obligations.DecodeInvertsEncode : Prop :=
  (∀ i : Instr, decode (encode i) = .ok i) ∧
  (∀ (w : Word) (i : Instr), decode w = .ok i → encode i = w) ∧
  (∀ d : Byte, encode (.rxByte d) = 0x100 ||| d.setWidth 12 ∧ encode (.crcByte d) = 0x600 ||| d.setWidth 12 ∧
    encode (.txByte d) = 0x800 ||| d.setWidth 12) ∧
  encode .tick = 0x200 ∧ encode .t15Expire = 0x300 ∧ encode .t35Expire = 0x400 ∧ encode .crcInit = 0x500 ∧
  encode .txBegin = 0x700 ∧ encode .txEnd = 0x900 ∧ encode .txAbort = 0xA00 ∧ encode .stop = 0xB00 ∧
  encode .reset = 0xC00 ∧
  (∀ w : Word, (∃ e, decode w = .error e) ↔
    ¬ ((cmdOp w = 0x1 ∨ cmdOp w = 0x6 ∨ cmdOp w = 0x8) ∨
      ((cmdOp w = 0x2 ∨ cmdOp w = 0x3 ∨ cmdOp w = 0x4 ∨ cmdOp w = 0x5 ∨ cmdOp w = 0x7 ∨ cmdOp w = 0x9 ∨
        cmdOp w = 0xA ∨ cmdOp w = 0xB ∨ cmdOp w = 0xC) ∧ cmdData w = 0x00)))

/-- 30_encoding.md R74: the reserved words are those with a reserved `OP` and the format `N` words with
non-zero `DATA`; they are 3319 of 4096; a step that meets one is refused and names the ground. -/
def Obligations.ReservedWordsAreRefused : Prop :=
  (∀ w : Word, decode w = .error .reservedOpcode ↔
    cmdOp w = 0x0 ∨ cmdOp w = 0xD ∨ cmdOp w = 0xE ∨ cmdOp w = 0xF) ∧
  (∀ w : Word, decode w = .error .nonZeroData ↔
    ¬ (cmdOp w = 0x0 ∨ cmdOp w = 0xD ∨ cmdOp w = 0xE ∨ cmdOp w = 0xF) ∧
    ¬ (cmdOp w = 0x1 ∨ cmdOp w = 0x6 ∨ cmdOp w = 0x8) ∧ cmdData w ≠ 0x00) ∧
  ((List.range 4096).filter fun n => !(wordWellFormed (BitVec.ofNat 12 n))).length = 3319 ∧
  (∀ w : Word, wordWellFormed w = true ↔ ∃ i, decode w = .ok i) ∧
  ∀ (s : State) (w : Word) (rest : List Word) (why : Invalid), configLegal s.cfg = true →
    s.stream = w :: rest → decode w = .error why → step s = .refused (.reservedWord why)

/-- 30_encoding.md R72: a word selects a row of the opcode map exactly when it decodes to a command with the
row's mnemonic and format, and no word selects two rows. -/
def Obligations.OpcodeMapSelectsWhatDecodes : Prop :=
  (∀ r ∈ opcodeMap, ∀ w : Word, r.selects w = true ↔
    ∃ i, decode w = .ok i ∧ i.mnemonic = r.mnemonic ∧ i.format = r.format) ∧
  opcodeMap.Pairwise fun r q => ∀ w : Word, ¬ (r.selects w = true ∧ q.selects w = true)

/-! ### The step -/

/-- A step executes the decoded head of the stream, on the state without that word
(00_scope.md R3, R11; 10_state.md R23; log 2). -/
def Obligations.StepExecutesTheDecodedCommand : Prop :=
  ∀ (s : State) (w : Word) (rest : List Word) (i : Instr), configLegal s.cfg = true → s.stream = w :: rest →
    decode w = .ok i → step s = exec i { s with stream := rest }

/-- With nothing presented the block holds its state and the step has no output
(44_control.md R177, 60_exceptions.md R198). That a waiting step clears the outputs is the model's choice, log 2. -/
def Obligations.StepWaitsWhenNothingIsPresented : Prop :=
  ∀ s : State, configLegal s.cfg = true → s.stream = [] → step s = .next { s with out := Output.none }

/-- 00_scope.md R8: a model refuses an illegal configuration, and a configuration is legal exactly when every
parameter is in its range (R7) and `T35_TICKS < 2^CNT_W`. -/
def Obligations.IllegalConfigurationIsRefused : Prop :=
  (∀ c : Config, configLegal c = true ↔
    1 ≤ c.baud ∧ c.baud ≤ 4000000 ∧ 5 ≤ c.dataBits ∧ c.dataBits ≤ 8 ∧ (c.parityBits = 0 ∨ c.parityBits = 1) ∧
      (c.stopBits = 1 ∨ c.stopBits = 2) ∧ 1000000 ≤ c.tickHz ∧ t35Ticks c < 2 ^ 32) ∧
  ∀ s : State, configLegal s.cfg = false → step s = .refused .illegalConfig

/-- Steps over a presented stream are the run of its commands: the stream is consumed in order, one command a
step, and what was presented after it is left (70_reset_and_hazards.md R214, R220; 20_memory.md R61). -/
def Obligations.StepsFollowTheStream : Prop :=
  ∀ (cs : List Instr) (s : State) (rest : List Word), configLegal s.cfg = true →
    s.stream = cs.map encode ++ rest →
    ∃ t outs, runCommands cs { s with stream := rest } = some (t, outs) ∧
      Host.Core.run Sys2Proof.core cs.length s = .next t

/-- 00_scope.md R11, 10_state.md R27: the step function is total, every command is defined on every state. -/
def Obligations.EveryCommandCompletesInEveryState : Prop :=
  ∀ (i : Instr) (s : State), ∃ t, exec i s = .next t

/-- 00_scope.md R7: no command changes a construction-time constant; and none touches the stream, which the
environment owns (10_state.md R23). -/
def Obligations.CommandsKeepConfigurationAndStream : Prop :=
  ∀ (i : Instr) (s t : State), exec i s = .next t → t.cfg = s.cfg ∧ t.stream = s.stream

/-- 42_rtu_framer.md R149: "the resulting set of emitted Frames is identical regardless of chunking". From every state
that meets the invariants of 10_state.md R27 (stopped, idle, or with a frame in progress), the same bytes under two
patterns of gaps below `T15_TICKS` and two trailing gaps of at least `T15_TICKS + T35_TICKS` emit the same frames and
leave the receive side the same. -/
def Obligations.GapPatternsDoNotMatter : Prop :=
  ∀ (s : State) (b : Byte) (ps qs : List (Nat × Byte)) (g h : Nat), configLegal s.cfg = true → s.Inv →
    ps.map Prod.snd = qs.map Prod.snd →
    (∀ p ∈ ps, p.1 < t15Ticks s.cfg) → (∀ q ∈ qs, q.1 < t15Ticks s.cfg) →
    t15Ticks s.cfg + t35Ticks s.cfg ≤ g → t15Ticks s.cfg + t35Ticks s.cfg ≤ h →
    ∃ t u outs outs',
      runCommands (.rxByte b :: gappedBytes ps ++ ticks g) s = some (t, outs) ∧
      runCommands (.rxByte b :: gappedBytes qs ++ ticks h) s = some (u, outs') ∧
      framesOf outs = framesOf outs' ∧ wireOf outs = [] ∧ wireOf outs' = [] ∧
      t.fsm = u.fsm ∧ t.len = u.len ∧ t.ovf = u.ovf ∧ t.t15 = u.t15 ∧ t.t35 = u.t35 ∧ t.run = u.run

/-! ### The Timing Unit -/

/-- 40_timing_unit.md R93: the unfloored durations are the least whole numbers of ticks not below 1.5 and 3.5
characters, and both are at least 1. -/
def Obligations.RawDurationsAreRoundedUp : Prop :=
  ∀ c : Config, c.inRange = true →
    (∀ n, t15Raw c ≤ n ↔ 3 * charBits c * c.tickHz ≤ n * (2 * c.baud)) ∧
    (∀ n, t35Raw c ≤ n ↔ 7 * charBits c * c.tickHz ≤ n * (2 * c.baud)) ∧
    1 ≤ t15Raw c ∧ 1 ≤ t35Raw c

/-- 40_timing_unit.md R94: 750 µs and 1750 µs in ticks, rounded up, are a minimum strictly above 19200 baud and
do not apply at or below it; the computed value is at most the fixed one exactly from `2000 * CHAR_BITS` baud. -/
def Obligations.FloorAppliesStrictlyAbove19200 : Prop :=
  ∀ c : Config,
    (∀ n, floor15 c ≤ n ↔ 750 * c.tickHz ≤ n * 1000000) ∧
    (∀ n, floor35 c ≤ n ↔ 1750 * c.tickHz ≤ n * 1000000) ∧
    (19200 < c.baud → t15Ticks c = max (t15Raw c) (floor15 c) ∧ t35Ticks c = max (t35Raw c) (floor35 c)) ∧
    (c.baud ≤ 19200 → t15Ticks c = t15Raw c ∧ t35Ticks c = t35Raw c) ∧
    (3 * charBits c * 1000000 ≤ 750 * (2 * c.baud) ↔ 2000 * charBits c ≤ c.baud) ∧
    (7 * charBits c * 1000000 ≤ 1750 * (2 * c.baud) ↔ 2000 * charBits c ≤ c.baud)

/-- 40_timing_unit.md R95: `1 <= T15_TICKS < T35_TICKS`, both non-increasing in `BAUD` on each side of 19200,
and exactly the floors from `2000 * CHAR_BITS` baud when above 19200. -/
def Obligations.DurationsAreOrderedAndMonotone : Prop :=
  (∀ c : Config, c.inRange = true → 1 ≤ t15Ticks c ∧ t15Ticks c < t35Ticks c) ∧
  (∀ (c : Config) (b : Nat), c.inRange = true → c.baud ≤ b → (b ≤ 19200 ∨ 19200 < c.baud) →
    t15Ticks { c with baud := b } ≤ t15Ticks c ∧ t35Ticks { c with baud := b } ≤ t35Ticks c) ∧
  (∀ c : Config, c.inRange = true → 2000 * charBits c ≤ c.baud → 19200 < c.baud →
    t15Ticks c = floor15 c ∧ t35Ticks c = floor35 c)

/-- 00_scope.md R8: every in-range configuration with `TICK_HZ <= 100 000 000` is legal. -/
def Obligations.InRangeConfigurationsAreLegal : Prop :=
  ∀ c : Config, c.inRange = true → c.tickHz ≤ 100000000 → configLegal c = true

/-! ### TICK -/

/-- 40_timing_unit.md R98 corner case (a): with neither timer armed a `TICK` changes nothing. -/
def Obligations.TickWithNoTimerArmedChangesNothing : Prop :=
  ∀ s : State, s.t15.armed = false → s.t35.armed = false → exec .tick s = .next { s with out := Output.none }

/-- 40_timing_unit.md R98: a single armed timer whose count does not reach zero counts down by one and nothing
else changes; an armed count of zero wraps to 0xFFFFFFFF (corner case (e)). -/
def Obligations.TickCountsDown : Prop :=
  (∀ s : State, s.t15.armed = true → s.t15.count ≠ 1 → s.t35.armed = false → exec .tick s =
    .next { s with out := Output.none, t15 := { armed := true, count := s.t15.count - 1 } }) ∧
  (∀ s : State, s.t35.armed = true → s.t35.count ≠ 1 → s.t15.armed = false → exec .tick s =
    .next { s with out := Output.none, t35 := { armed := true, count := s.t35.count - 1 } }) ∧
  (0 : Count) - 1 = 0xFFFFFFFF

/-- 40_timing_unit.md R99: when a count reaches zero `TICK` performs exactly what the expiry command performs. -/
def Obligations.TickFiresAsTheExpiryCommands : Prop :=
  (∀ s : State, s.t15.armed = true → s.t15.count = 1 → s.t35.armed = false →
    exec .tick s = exec .t15Expire s) ∧
  (∀ s : State, s.t35.armed = true → s.t35.count = 1 → s.t15.armed = false →
    exec .tick s = exec .t35Expire s)

/-- 40_timing_unit.md R98 corner case (c): with both timers armed `T15` is served before `T35`, each seeing the
writes before it (00_scope.md R10). In `Receiving` with `T15` at its last tick the t1.5 expiry re-arms `T35`,
which then counts down once; otherwise both counts go down, and a `T35` at its last tick fires on the state the
t1.5 half left. -/
def Obligations.TickServesT15BeforeT35 : Prop :=
  (∀ s : State, configLegal s.cfg = true → s.t15.armed = true → s.t35.armed = true → s.fsm = .receiving →
    s.t15.count = 1 → exec .tick s =
      .next { s with out := Output.none, t15 := Timer.off, fsm := .frameReady,
                     t35 := { armed := true, count := BitVec.ofNat 32 (t35Ticks s.cfg - 1) } }) ∧
  (∀ s : State, s.t15.armed = true → s.t35.armed = true → s.t15.count ≠ 1 → s.t35.count ≠ 1 → exec .tick s =
      .next { s with out := Output.none, t15 := { armed := true, count := s.t15.count - 1 },
                     t35 := { armed := true, count := s.t35.count - 1 } }) ∧
  (∀ s : State, s.t15.armed = true → s.t35.armed = true → s.t15.count ≠ 1 → s.t35.count = 1 → exec .tick s =
      exec .t35Expire { s with t15 := { armed := true, count := s.t15.count - 1 } }) ∧
  (∀ s : State, s.t15.armed = true → s.t35.armed = true → s.t15.count = 1 → s.fsm ≠ .receiving →
      exec .tick s = exec .tick { s with t15 := Timer.off })

/-- 40_timing_unit.md R98 corner cases (b), (d): a `T15` armed with `n >= 1` in `Receiving` has fired after the
`n`-th tick and not before, and the `T35` it arms then holds its full `T35_TICKS`. -/
def Obligations.ArmedT15FiresOnTheNthTick : Prop :=
  ∀ (s : State) (n : Nat), 1 ≤ n → n < 2 ^ 32 → s.fsm = .receiving → s.t15 = Timer.armedWith n →
    s.t35 = Timer.off →
    (∀ k, k < n → ∃ t, runCommands (ticks k) s = some (t, List.replicate k Output.none) ∧
      t.fsm = .receiving ∧ t.t15 = Timer.armedWith (n - k) ∧ t.t35 = Timer.off) ∧
    ∃ t, runCommands (ticks n) s = some (t, List.replicate n Output.none) ∧
      t.fsm = .frameReady ∧ t.t15 = Timer.off ∧ t.t35 = Timer.armedWith (t35Ticks s.cfg) ∧
      t.len = s.len ∧ t.ovf = s.ovf ∧ t.buf = s.buf

/-- 42_rtu_framer.md R148: what `g` ticks after the last byte of a frame have done to it. Before `T15_TICKS` it is
still open; before `T15_TICKS + T35_TICKS` it waits in `FrameReady`; during the tick numbered
`T15_TICKS + T35_TICKS` it is validated and emitted or discarded, and no other tick has an output. Until then the
bytes of the frame stay in the buffer; afterwards nothing is said of the cells. -/
def Obligations.FrameBoundaryTimeline : Prop :=
  ∀ (s : State) (g : Nat), configLegal s.cfg = true → s.fsm = .receiving →
    s.t15 = Timer.armedWith (t15Ticks s.cfg) → s.t35 = Timer.off →
    ∃ t outs, runCommands (ticks g) s = some (t, outs) ∧
      (g < t15Ticks s.cfg + t35Ticks s.cfg →
        ∀ a, a < s.len.val → bufRead t.buf a = bufRead s.buf a) ∧
      (g < t15Ticks s.cfg → outs = List.replicate g Output.none ∧
        t.fsm = .receiving ∧ t.len = s.len ∧ t.ovf = s.ovf ∧
        t.t15 = Timer.armedWith (t15Ticks s.cfg - g) ∧ t.t35 = Timer.off) ∧
      (t15Ticks s.cfg ≤ g → g < t15Ticks s.cfg + t35Ticks s.cfg → outs = List.replicate g Output.none ∧
        t.fsm = .frameReady ∧ t.len = s.len ∧ t.ovf = s.ovf ∧
        t.t15 = Timer.off ∧ t.t35 = Timer.armedWith (t15Ticks s.cfg + t35Ticks s.cfg - g)) ∧
      (t15Ticks s.cfg + t35Ticks s.cfg ≤ g →
        outs = List.replicate (t15Ticks s.cfg + t35Ticks s.cfg - 1) Output.none ++
          { frameOut := if frameValid (frameBytes s) s.ovf then some (frameBytes s) else none, wireOut := [] } ::
          List.replicate (g - (t15Ticks s.cfg + t35Ticks s.cfg)) Output.none ∧
        t.fsm = .idle ∧ t.len.val = 0 ∧ t.ovf = false ∧ t.t15 = Timer.off ∧ t.t35 = Timer.off)

/-- 42_rtu_framer.md R149: bytes with fewer than `T15_TICKS` ticks between consecutive ones, followed by at least
`T15_TICKS + T35_TICKS` ticks, emit exactly the frame of those bytes if it has 4 to 256 of them and verifies, and
nothing otherwise. -/
def Obligations.BytesWithSmallGapsMakeOneFrame : Prop :=
  ∀ (s : State) (b : Byte) (ps : List (Nat × Byte)) (g : Nat), configLegal s.cfg = true → s.run = true →
    s.fsm ≠ .receiving → (∀ p ∈ ps, p.1 < t15Ticks s.cfg) → t15Ticks s.cfg + t35Ticks s.cfg ≤ g →
    ∃ t outs, runCommands (.rxByte b :: gappedBytes ps ++ ticks g) s = some (t, outs) ∧
      framesOf outs =
        (if 4 ≤ ps.length + 1 ∧ ps.length + 1 ≤ 256 ∧ verify (b :: ps.map Prod.snd) = true
          then [b :: ps.map Prod.snd] else []) ∧
      wireOf outs = [] ∧ t.fsm = .idle ∧ t.len.val = 0

/-- 30_encoding.md R75, 95_test_vectors.md V40 to V50: `SILENCE` ends the frame in progress at the event level.
Nothing is said of the cells of `BUF`, all of which then stand beyond `LEN`. -/
def Obligations.SilenceEndsTheFrame : Prop :=
  ∀ s : State, s.fsm = .receiving → s.t15.armed = true → ∃ t, runCommands silence s =
    some (t, [Output.none,
       { frameOut := if frameValid (frameBytes s) s.ovf then some (frameBytes s) else none, wireOut := [] }]) ∧
    t = { s with
        out := { frameOut := if frameValid (frameBytes s) s.ovf then some (frameBytes s) else none, wireOut := [] },
        fsm := .idle, len := 0, ovf := false, t15 := Timer.off, t35 := Timer.off, buf := t.buf }

/-! ### RX_BYTE -/

/-- 42_rtu_framer.md R131, R133, R134: an accepted byte in `Idle`, `FrameReady` or `Error` starts a frame with it,
whatever was accumulated; `T35` is stopped, `T15` armed, and nothing is emitted. `BUF[0]` holds the byte; nothing is
said of the cells beyond the new `LEN`. In `FrameReady` it raises `FramingError(GapByte)`: that the cause is a function
beside the step is the model's deduction, log 10. -/
def Obligations.RxByteStartsAFrame : Prop :=
  ∀ (s : State) (d : Byte), s.run = true → (s.fsm = .idle ∨ s.fsm = .frameReady ∨ s.fsm = .error) →
    (∃ t, exec (.rxByte d) s = .next t ∧ bufRead t.buf 0 = some d ∧
      t = { s with out := Output.none, fsm := .receiving, len := 1, ovf := false,
                   t15 := { armed := true, count := BitVec.ofNat 32 (t15Ticks s.cfg) },
                   t35 := { armed := false, count := 0 }, buf := t.buf }) ∧
    (s.fsm = .frameReady → discardCause (.rxByte d) s = some .gapByte)

/-- 42_rtu_framer.md R132: an accepted byte in `Receiving` is stored at `BUF[LEN]` and `LEN` goes up, or, with the
buffer full, is dropped and `OVF` set; in both cases `T15` is re-armed in full and `STATE` stays. -/
def Obligations.RxByteContinuesAFrame : Prop :=
  ∀ (s : State) (d : Byte), s.run = true → s.fsm = .receiving →
    (∀ h : s.len.val < 256, exec (.rxByte d) s =
      .next { s with out := Output.none, len := ⟨s.len.val + 1, Nat.succ_lt_succ h⟩,
                     buf := bufWrite s.buf s.len.val d,
                     t15 := { armed := true, count := BitVec.ofNat 32 (t15Ticks s.cfg) } }) ∧
    (s.len.val = 256 → exec (.rxByte d) s =
      .next { s with out := Output.none, ovf := true,
                     t15 := { armed := true, count := BitVec.ofNat 32 (t15Ticks s.cfg) } })

/-- 42_rtu_framer.md R130, 44_control.md R176: with `RUN = 0` the byte is dropped and nothing changes. -/
def Obligations.RxByteIsIgnoredWhenStopped : Prop :=
  ∀ (s : State) (d : Byte), s.run = false → exec (.rxByte d) s = .next { s with out := Output.none }

/-- 20_memory.md R51: `RX_BYTE` stores its byte at the index the append gives and changes no other cell. For the cells
beyond the new `LEN` (10_state.md R28), those of a discarded frame among them, keeping the byte is the model's choice,
log 5. -/
def Obligations.RxByteWritesOneCell : Prop :=
  ∀ (s t : State) (d : Byte), exec (.rxByte d) s = .next t →
    (∀ a, rxStoreIndex s = some a → bufRead t.buf a = some d ∧ a < 256) ∧
    ∀ a, rxStoreIndex s ≠ some a → bufRead t.buf a = bufRead s.buf a

/-- 20_memory.md R57: no command but `RX_BYTE` writes the buffer. For the cells that are not architectural (10_state.md
R28: beyond `LEN`, and all of them after `RESET`) keeping the byte is the model's choice, log 5. -/
def Obligations.OnlyRxByteWritesTheBuffer : Prop :=
  ∀ (i : Instr) (s t : State), (∀ d, i ≠ .rxByte d) → exec i s = .next t →
    ∀ a, bufRead t.buf a = bufRead s.buf a

/-! ### The expiries -/

/-- 42_rtu_framer.md R135, R136, R137: an armed `T15` fires at once whatever its count; in `Receiving` the frame is
closed and `T35` armed, elsewhere the timer is only disarmed; an unarmed `T15` makes the command stale. -/
def Obligations.T15ExpireFiresAnArmedTimer : Prop :=
  (∀ s : State, s.t15.armed = true → s.fsm = .receiving → exec .t15Expire s =
    .next { s with out := Output.none, fsm := .frameReady, t15 := { armed := false, count := 0 },
                   t35 := { armed := true, count := BitVec.ofNat 32 (t35Ticks s.cfg) } }) ∧
  (∀ s : State, s.t15.armed = true → (s.fsm = .idle ∨ s.fsm = .frameReady ∨ s.fsm = .error) → exec .t15Expire s =
    .next { s with out := Output.none, t15 := { armed := false, count := 0 } }) ∧
  (∀ s : State, s.t15.armed = false → exec .t15Expire s = .next { s with out := Output.none })

/-- 42_rtu_framer.md R138 to R143: an armed `T35` fires at once whatever its count. In `FrameReady` the candidate frame
is emitted if valid and silently discarded otherwise, and the state afterwards is the same in both cases; in `Error`
the buffer is cleared with no output; of the cells, all beyond `LEN` then, nothing is said. Elsewhere the timer is only
disarmed; unarmed, the command is stale. The cause of a discard is that of R140: that it is a function beside the step
is the model's deduction, log 10. -/
def Obligations.T35ExpireFiresAnArmedTimer : Prop :=
  (∀ s : State, s.t35.armed = true → s.fsm = .frameReady →
    (∃ t, exec .t35Expire s = .next t ∧
      t = { s with
        out := { frameOut := if frameValid (frameBytes s) s.ovf then some (frameBytes s) else none, wireOut := [] },
        fsm := .idle, len := 0, ovf := false, t35 := { armed := false, count := 0 }, buf := t.buf }) ∧
    discardCause .t35Expire s = frameCause (frameBytes s) s.ovf) ∧
  (∀ s : State, s.t35.armed = true → s.fsm = .error → ∃ t, exec .t35Expire s = .next t ∧
    t = { s with out := Output.none, fsm := .idle, len := 0, ovf := false,
                 t35 := { armed := false, count := 0 }, buf := t.buf }) ∧
  (∀ s : State, s.t35.armed = true → (s.fsm = .idle ∨ s.fsm = .receiving) → exec .t35Expire s =
    .next { s with out := Output.none, t35 := { armed := false, count := 0 } }) ∧
  (∀ s : State, s.t35.armed = false → exec .t35Expire s = .next { s with out := Output.none })

/-- 42_rtu_framer.md R140: a frame is valid exactly when no byte was dropped, it has at least 4 bytes and its CRC
verifies, and the cause of a failure is the first that applies of `Overrun`, `ShortFrame`, `CrcMismatch`. -/
def Obligations.ValidationChecksOverrunLengthCrc : Prop :=
  ∀ (f : List Byte) (ovf : Bool),
    (frameValid f ovf = true ↔ ovf = false ∧ 4 ≤ f.length ∧ verify f = true) ∧
    (frameCause f ovf = some .overrun ↔ ovf = true) ∧
    (frameCause f ovf = some .shortFrame ↔ ovf = false ∧ f.length < 4) ∧
    (frameCause f ovf = some .crcMismatch ↔ ovf = false ∧ 4 ≤ f.length ∧ verify f = false) ∧
    frameCause f ovf ≠ some .gapByte

/-- 42_rtu_framer.md R141: whatever command emits a frame, the frame has 4 to 256 bytes and verifies, is the whole
buffer content `BUF[0 .. LEN-1]`, and the command is a t3.5 expiry, forced or inside a `TICK`, in `FrameReady`. (An
illegal configuration, which no step runs, could arm a `T35` in `Receiving` that fires in the same tick.) -/
def Obligations.EmittedFramesPassedTheCheck : Prop :=
  ∀ (i : Instr) (s t : State) (f : List Byte), exec i s = .next t → t.out.frameOut = some f →
    4 ≤ f.length ∧ f.length ≤ 256 ∧ verify f = true ∧ f = frameBytes s ∧ s.ovf = false ∧
      (i = .tick ∨ i = .t35Expire) ∧ (configLegal s.cfg = true → s.fsm = .frameReady) ∧
      s.t35.armed = true ∧ t.t35.armed = false ∧ t.fsm = .idle ∧ t.len.val = 0

/-- 60_exceptions.md R185, R186: which commands raise which `FramingError` and when, and that the whole effect of one is
the discard: no output, and every register and flag but those of the frame in progress as before. `LEN` is 0, or 1
holding the new byte for `GapByte`; of the cells beyond `LEN` nothing is said. A t3.5 expiry inside a `TICK` raises what
the forced one does, when `T35` is at its last tick (under a legal configuration); `T15`, disarmed then in every
reachable state, otherwise has its own half of the `TICK`. That the cause is a function beside the step is the model's
deduction, log 10. -/
def Obligations.FramingErrorsOnlyDiscard : Prop :=
  (∀ (s : State) (d : Byte), discardCause (.rxByte d) s =
    if s.run = true ∧ s.fsm = .frameReady then some .gapByte else none) ∧
  (∀ s : State, discardCause .t35Expire s =
    if s.t35.armed = true ∧ s.fsm = .frameReady then frameCause (frameBytes s) s.ovf else none) ∧
  (∀ s : State, configLegal s.cfg = true → discardCause .tick s =
    if s.t35.armed = true ∧ s.t35.count = 1 ∧ s.fsm = .frameReady then frameCause (frameBytes s) s.ovf else none) ∧
  (∀ s : State, s.t35.armed = true → s.fsm = .frameReady →
    (discardCause .t35Expire s = some .overrun ↔ s.ovf = true) ∧
    (discardCause .t35Expire s = some .shortFrame ↔ s.ovf = false ∧ s.len.val < 4) ∧
    (discardCause .t35Expire s = some .crcMismatch ↔
      s.ovf = false ∧ 4 ≤ s.len.val ∧ verify (frameBytes s) = false)) ∧
  (∀ (i : Instr) (s : State) (c : FramingError), discardCause i s = some c →
    (∃ d, i = .rxByte d) ∨ i = .tick ∨ i = .t35Expire) ∧
  (∀ (i : Instr) (s : State), discardCause i s = some .gapByte →
    ∃ d t, i = .rxByte d ∧ exec i s = .next t ∧ bufRead t.buf 0 = some d ∧
      t = { s with out := Output.none, fsm := .receiving, len := 1, ovf := false,
                   t15 := { armed := true, count := BitVec.ofNat 32 (t15Ticks s.cfg) },
                   t35 := { armed := false, count := 0 }, buf := t.buf }) ∧
  (∀ (i : Instr) (s : State) (c : FramingError), discardCause i s = some c → c ≠ .gapByte →
    ∃ t, exec i s = .next t ∧
      t = { s with
        out := Output.none, fsm := .idle, len := 0, ovf := false, t35 := { armed := false, count := 0 }, buf := t.buf,
        t15 := if i = .tick ∧ s.t15.armed = true
          then if s.t15.count = 1 then { armed := false, count := 0 }
            else { armed := true, count := s.t15.count - 1 }
          else s.t15 })

/-! ### STATE and who writes what -/

/-- 42_rtu_framer.md R144: how `STATE` changes under every command in every state. A `TICK` (40_timing_unit.md R98), under
a legal configuration, moves it exactly when an armed timer is at its last tick: `T15` in `Receiving`, else `T35` in
`FrameReady` or `Error`. -/
def Obligations.StateTransitionTable : Prop :=
  ∀ (s t : State) (i : Instr), exec i s = .next t →
    match i with
    | .rxByte _ => t.fsm = if s.run then .receiving else s.fsm
    | .tick => configLegal s.cfg = true → t.fsm =
        if s.t15.armed = true ∧ s.t15.count = 1 ∧ s.fsm = .receiving then .frameReady
        else if s.t35.armed = true ∧ s.t35.count = 1 ∧ (s.fsm = .frameReady ∨ s.fsm = .error) then .idle
        else s.fsm
    | .t15Expire => t.fsm = if s.t15.armed = true ∧ s.fsm = .receiving then .frameReady else s.fsm
    | .t35Expire => t.fsm =
        if s.t35.armed = true ∧ (s.fsm = .frameReady ∨ s.fsm = .error) then .idle else s.fsm
    | .crcInit => t.fsm = s.fsm
    | .crcByte _ => t.fsm = s.fsm
    | .txBegin => t.fsm = s.fsm
    | .txByte _ => t.fsm = s.fsm
    | .txEnd => t.fsm = s.fsm
    | .txAbort => t.fsm = s.fsm
    | .stop => t.fsm = .idle
    | .reset => t.fsm = .idle

/-- 10_state.md R22: each data register is written only by the commands listed for it. -/
def Obligations.DataRegistersHaveOnlyTheirWriters : Prop :=
  ∀ (i : Instr) (s t : State), exec i s = .next t →
    (t.crcAcc ≠ s.crcAcc → i = .crcInit ∨ (∃ d, i = .crcByte d) ∨ i = .reset) ∧
    (t.txCrc ≠ s.txCrc → i = .txBegin ∨ (∃ d, i = .txByte d) ∨ i = .reset) ∧
    (t.len ≠ s.len → (∃ d, i = .rxByte d) ∨ i = .t35Expire ∨ i = .tick ∨ i = .stop ∨ i = .reset) ∧
    (t.t15.count ≠ s.t15.count →
      (∃ d, i = .rxByte d) ∨ i = .tick ∨ i = .t15Expire ∨ i = .stop ∨ i = .reset) ∧
    (t.t35.count ≠ s.t35.count →
      (∃ d, i = .rxByte d) ∨ i = .tick ∨ i = .t15Expire ∨ i = .t35Expire ∨ i = .stop ∨ i = .reset)

/-- 10_state.md R24: each flag is set and cleared only by the commands listed for it, under the conditions listed. -/
def Obligations.FlagsHaveOnlyTheirWriters : Prop :=
  ∀ (i : Instr) (s t : State), exec i s = .next t →
    (s.run = false → t.run = true → i = .reset) ∧
    (s.run = true → t.run = false → i = .stop) ∧
    (s.txEn = false → t.txEn = true → i = .txBegin) ∧
    (s.txEn = true → t.txEn = false → i = .txEnd ∨ i = .txAbort ∨ i = .reset) ∧
    (s.ovf = false → t.ovf = true →
      (∃ d, i = .rxByte d) ∧ s.fsm = .receiving ∧ s.len.val = 256 ∧ s.run = true) ∧
    (s.ovf = true → t.ovf = false →
      ((∃ d, i = .rxByte d) ∧ s.fsm ≠ .receiving) ∨ i = .t35Expire ∨ i = .tick ∨ i = .stop ∨ i = .reset) ∧
    (s.t15.armed = false → t.t15.armed = true → (∃ d, i = .rxByte d) ∧ s.run = true) ∧
    (s.t15.armed = true → t.t15.armed = false → i = .tick ∨ i = .t15Expire ∨ i = .stop ∨ i = .reset) ∧
    (s.t35.armed = false → t.t35.armed = true →
      (i = .tick ∨ i = .t15Expire) ∧ s.fsm = .receiving ∧ s.t15.armed = true) ∧
    (s.t35.armed = true → t.t35.armed = false →
      ((∃ d, i = .rxByte d) ∧ s.run = true) ∨ i = .tick ∨ i = .t35Expire ∨ i = .stop ∨ i = .reset)

/-! ### The CRC -/

/-- 41_crc_engine.md R115, R116: `CRC_INIT` loads 0xFFFF and `CRC_BYTE` feeds one byte; nothing else changes and there
is no output. After `CRC_INIT` and some bytes, in any state, and after the bytes alone from construction or `RESET`,
`CRC_OUT` shows their `crc16`. -/
def Obligations.CrcPortCommandsWriteCrcAcc : Prop :=
  (∀ s : State, exec .crcInit s = .next { s with out := Output.none, crcAcc := 0xFFFF }) ∧
  (∀ (s : State) (d : Byte), exec (.crcByte d) s =
    .next { s with out := Output.none, crcAcc := crcStep s.crcAcc d }) ∧
  (∀ (s : State) (bs : List Byte), ∃ t outs, runCommands (crc16Commands bs) s = some (t, outs) ∧
    (levels t).crcOut = crc16 bs) ∧
  (∀ (c : Config) (bs : List Byte), ∃ t outs,
    runCommands (bs.map .crcByte) (State.construct c) = some (t, outs) ∧ (levels t).crcOut = crc16 bs) ∧
  ∀ (s : State) (bs : List Byte), ∃ t outs, runCommands (.reset :: bs.map .crcByte) s = some (t, outs) ∧
    (levels t).crcOut = crc16 bs

/-- 41_crc_engine.md R116, R112: after `CRC_INIT` and the bytes the port shows their `crc16`, and every other state
item is as before. -/
def Obligations.CrcPortComputesCrc16 : Prop :=
  ∀ (s : State) (bs : List Byte), ∃ outs, runCommands (crc16Commands bs) s =
    some ({ s with out := Output.none, crcAcc := crc16 bs }, outs) ∧ framesOf outs = [] ∧ wireOf outs = []

/-- 41_crc_engine.md R113: `verify` holds exactly of the lists whose trailing two bytes are the CRC of the rest, low byte
first (every list followed by its CRC among them, R114 item 1); it is false below two bytes, and of the lists of two
bytes it holds of `FF FF` alone. -/
def Obligations.VerifyHoldsExactlyOfAppendedCrcs : Prop :=
  (∀ f : List Byte, verify f = true ↔ ∃ d, f = d ++ crcWireBytes (crc16 d)) ∧
  (∀ f : List Byte, f.length < 2 → verify f = false) ∧
  ∀ f : List Byte, f.length = 2 → (verify f = true ↔ f = [0xFF, 0xFF])

/-- 41_crc_engine.md R114 item 2: the CRC of a list followed by its own CRC is zero, and a list of at least two
bytes whose CRC is zero verifies. -/
def Obligations.CrcResidueIsZero : Prop :=
  (∀ d : List Byte, crc16 (d ++ crcWireBytes (crc16 d)) = 0x0000) ∧
  ∀ f : List Byte, 2 ≤ f.length → crc16 f = 0x0000 → verify f = true

/-- 41_crc_engine.md R114 item 3: a single flipped bit anywhere in a frame that verified makes `verify` false. -/
def Obligations.SingleBitFlipIsDetected : Prop :=
  ∀ (f : List Byte) (i j : Nat), verify f = true → i < f.length → j < 8 → verify (flipBit f i j) = false

/-- 41_crc_engine.md R111: `crc_bit` is a bijection, bit 15 of its result tells whether the constant was applied,
and `crc_step` is a bijection for each byte. -/
def Obligations.CrcStepIsABijection : Prop :=
  Function.Bijective crcBit ∧ (∀ c : Crc, (crcBit c).getLsbD 15 = c.getLsbD 0) ∧
    ∀ b : Byte, Function.Bijective fun c => crcStep c b

/-- 41_crc_engine.md R110: the table form of `crc_step`. -/
def Obligations.CrcTableFormAgrees : Prop :=
  ∀ (c : Crc) (b : Byte), crcStep c b = (c >>> 8) ^^^ crcTable (crcLow (c ^^^ zext16 b))

/-! ### Transmit -/

/-- 43_transmit.md R161 to R164. With `TXEN = 0`, `TX_BEGIN` raises the enable and restarts the CRC and the other three
change nothing and send nothing. With `TXEN = 1`, `TX_BEGIN` is ignored, `TX_BYTE` sends its byte and runs the CRC,
`TX_END` sends bits 7:0 and then bits 15:8 of the CRC and drops the enable, `TX_ABORT` only drops the enable. -/
def Obligations.TransmitCommandsFollowTheEnable : Prop :=
  (∀ s : State, s.txEn = false →
    exec .txBegin s = .next { s with out := Output.none, txEn := true, txCrc := 0xFFFF } ∧
    (∀ d : Byte, exec (.txByte d) s = .next { s with out := Output.none }) ∧
    exec .txEnd s = .next { s with out := Output.none } ∧
    exec .txAbort s = .next { s with out := Output.none }) ∧
  ∀ s : State, s.txEn = true →
    exec .txBegin s = .next { s with out := Output.none } ∧
    (∀ d : Byte, exec (.txByte d) s =
      .next { s with out := { frameOut := none, wireOut := [d] }, txCrc := crcStep s.txCrc d }) ∧
    exec .txEnd s = .next { s with
      out := { frameOut := none, wireOut := [s.txCrc.extractLsb' 0 8, s.txCrc.extractLsb' 8 8] }, txEn := false } ∧
    exec .txAbort s = .next { s with out := Output.none, txEn := false }

/-- 43_transmit.md R165: with `TXEN = 0`, the commands of a transmission, with commands of the other families but
`RESET` interleaved in any way, put the bytes and their CRC on the wire, in order, hold `TXEN = 1` from the end of
`TX_BEGIN` to the end of `TX_END`, and leave `TXEN = 0`; the wire bytes verify. -/
def Obligations.TransmittedFrameCarriesItsCrc : Prop :=
  ∀ (s : State) (bs : List Byte) (cs : List Instr), s.txEn = false → cs.filter isTransmit = txFrame bs →
    Instr.reset ∉ cs →
    ∃ t outs, runCommands cs s = some (t, outs) ∧ wireOf outs = bs ++ crcWireBytes (crc16 bs) ∧
      verify (wireOf outs) = true ∧ t.txEn = false ∧
      ∀ ps qs, cs = ps ++ qs → Instr.txBegin ∈ ps → Instr.txEnd ∈ qs →
        ∃ u os, runCommands ps s = some (u, os) ∧ u.txEn = true

/-! ### Control -/

/-- 44_control.md R176: `STOP` clears `RUN`, disarms both timers, drops the frame in progress and leaves the transmit
side and the CRC port alone; nothing is output. Of the cells of `BUF`, all beyond `LEN` then, nothing is said. In the
state it leaves, a byte is dropped, an expiry is stale, a `TICK` does nothing and a second `STOP` is the same as one. -/
def Obligations.StopTearsTheReceiveSideDown : Prop :=
  ∀ s : State, ∃ t, exec .stop s = .next t ∧
    t = { s with out := Output.none, run := false, t15 := { armed := false, count := 0 },
                 t35 := { armed := false, count := 0 }, len := 0, ovf := false, fsm := .idle, buf := t.buf } ∧
    (∀ d : Byte, exec (.rxByte d) t = .next t) ∧ exec .t15Expire t = .next t ∧ exec .t35Expire t = .next t ∧
    exec .tick t = .next t ∧ exec .stop t = .next t

/-- 44_control.md R175: `RESET` writes every register and flag and does not write `BUF` or a constant. That the cells
keep their bytes is the model's choice among what 10_state.md R28 permits (log 5). -/
def Obligations.ResetConstructsTheInstanceAnew : Prop :=
  ∀ s : State, exec .reset s =
    .next { s with out := Output.none, fsm := .idle, len := 0, ovf := false,
                   t15 := { armed := false, count := 0 }, t35 := { armed := false, count := 0 },
                   crcAcc := 0xFFFF, txCrc := 0xFFFF, txEn := false, run := true }

/-- 44_control.md R176: after `STOP`, until a `RESET`, no stream makes the block receive or emit anything; its receive
side stays stopped and idle with both timers disarmed. -/
def Obligations.StoppedBlockStaysSilent : Prop :=
  ∀ (s t : State) (cs : List Instr), exec .stop s = .next t → Instr.reset ∉ cs →
    ∃ u outs, runCommands cs t = some (u, outs) ∧ framesOf outs = [] ∧ u.run = false ∧ u.fsm = .idle ∧
      u.len.val = 0 ∧ u.ovf = false ∧ u.t15 = Timer.off ∧ u.t35 = Timer.off

/-! ### Independence of the three datapaths -/

/-- 43_transmit.md R166, 41_crc_engine.md R117: the receive side, with what it emits, does not depend on the transmit
side or the CRC port, for any command. -/
def Obligations.ReceiveSideIgnoresTransmitAndPort : Prop :=
  ∀ (i : Instr) (s u t v : State), receiveSide (beginStep s) = receiveSide (beginStep u) →
    exec i s = .next t → exec i u = .next v → receiveSide t = receiveSide v

/-- 41_crc_engine.md R117, 43_transmit.md R165, 44_control.md R176: the transmit side, with what it sends, does not
depend on the receive side or the CRC port, for any command. -/
def Obligations.TransmitSideIgnoresReceiveAndPort : Prop :=
  ∀ (i : Instr) (s u t v : State), transmitSide (beginStep s) = transmitSide (beginStep u) →
    exec i s = .next t → exec i u = .next v → transmitSide t = transmitSide v

/-! ### Invariants -/

/-- At construction with any constants the invariants of 10_state.md R27 and the buffer's canonical form hold. -/
def Obligations.ConstructionMeetsTheInvariants : Prop :=
  ∀ c : Config, (State.construct c).Inv ∧ (State.construct c).BufferInv

/-- 10_state.md R27: every step keeps the nine invariants, from every state that meets them. -/
def Obligations.StepKeepsTheInvariants : Prop :=
  ∀ s t : State, s.Inv → step s = .next t → t.Inv

/-- 10_state.md R27: every state reachable from construction with legal constants, by any command sequence, meets the
nine invariants. -/
def Obligations.ReachableStatesMeetTheInvariants : Prop :=
  ∀ (c : Config) (t : State), Reachable c t → t.Inv

/-- The buffer keeps its canonical form and the frame in progress stays written, from every state where both hold: the
frame read-out then meets no unspecified cell (20_memory.md R51, R52; log 4). -/
def Obligations.StepKeepsTheBufferWritten : Prop :=
  ∀ s t : State, s.BufferInv → step s = .next t → t.BufferInv

/-- 42_rtu_framer.md R147: no command enters `Error`, and no command sequence from construction reaches it. -/
def Obligations.ErrorIsUnreachable : Prop :=
  (∀ (i : Instr) (s t : State), exec i s = .next t → t.fsm = .error → s.fsm = .error) ∧
  ∀ (c : Config) (cs : List Instr), ∃ t outs, runCommands cs (State.construct c) = some (t, outs) ∧ t.fsm ≠ .error

/-- 70_reset_and_hazards.md R214: in a quiescent reachable state no timer is armed and nothing is pending. -/
def Obligations.QuiescentMeansNothingPending : Prop :=
  ∀ (c : Config) (t : State), Reachable c t → t.quiescent →
    t.t15.armed = false ∧ t.t35.armed = false ∧ t.len.val = 0 ∧ t.ovf = false ∧ t.txEn = false

/-- 40_timing_unit.md R99: every behaviour of the timed block is a behaviour of the event-level block. For every
command stream from construction there is one without `TICK` that has the same commands in the same order but for the
two expiries, emits the same frames, wires the same bytes and ends in the same state but for the counts and the last
outputs. -/
def Obligations.TimedBlockIsAnEventLevelBlock : Prop :=
  ∀ (c : Config) (cs : List Instr) (t : State) (outs : List Output), configLegal c = true →
    runCommands cs (State.construct c) = some (t, outs) →
    ∃ ds u outs', Instr.tick ∉ ds ∧
      ds.filter (fun i => !isTiming i) = cs.filter (fun i => !isTiming i) ∧
      runCommands ds (State.construct c) = some (u, outs') ∧
      framesOf outs' = framesOf outs ∧ wireOf outs' = wireOf outs ∧
      eventView (beginStep u) = eventView (beginStep t)

/-- 40_timing_unit.md R98 corner cases (d) and (b), for the other timer: a `T35` armed with `n >= 1` in `FrameReady` has
fired during the `n`-th tick, which emits the frame if it is valid, and not before. -/
def Obligations.ArmedT35FiresOnTheNthTick : Prop :=
  ∀ (s : State) (n : Nat), 1 ≤ n → n < 2 ^ 32 → s.fsm = .frameReady → s.t35 = Timer.armedWith n →
    s.t15 = Timer.off →
    (∀ k, k < n → ∃ t, runCommands (ticks k) s = some (t, List.replicate k Output.none) ∧
      t.fsm = .frameReady ∧ t.t35 = Timer.armedWith (n - k) ∧ t.t15 = Timer.off ∧
      t.len = s.len ∧ t.ovf = s.ovf ∧ ∀ a, a < s.len.val → bufRead t.buf a = bufRead s.buf a) ∧
    ∃ t, runCommands (ticks n) s = some (t, List.replicate (n - 1) Output.none ++
        [{ frameOut := if frameValid (frameBytes s) s.ovf then some (frameBytes s) else none, wireOut := [] }]) ∧
      t.fsm = .idle ∧ t.t35 = Timer.off ∧ t.t15 = Timer.off ∧ t.len.val = 0 ∧ t.ovf = false
end

