-- ==== Sys2Proof/Laws/Crc.lean ====
section
/-! SUPPORT. The defining laws of the CRC functions (41_crc_engine.md R110, R112). -/

namespace Sys2Proof.Machine

@[simp] theorem crc16_nil : crc16 [] = crcInit := rfl

/-- The recursion of 41_crc_engine.md R112: one more byte at the end is one more `crc_step`. -/
theorem crc16_concat (bs : List Byte) (b : Byte) : crc16 (bs ++ [b]) = crcStep (crc16 bs) b := by
  simp [crc16]

theorem crc16_append (as bs : List Byte) : crc16 (as ++ bs) = bs.foldl crcStep (crc16 as) := by
  simp [crc16]

@[simp] theorem crcBits_zero (c : Crc) : crcBits 0 c = c := rfl

theorem crcBits_succ (n : Nat) (c : Crc) : crcBits (n + 1) c = crcBits n (crcBit c) := rfl

@[simp] theorem joinBytes_high_low (c : Crc) : joinBytes (crcHigh c) (crcLow c) = c := by
  apply BitVec.eq_of_getLsbD_eq
  intro i hi
  unfold joinBytes crcHigh crcLow
  rw [BitVec.getLsbD_append, BitVec.getLsbD_extractLsb', BitVec.getLsbD_extractLsb']
  by_cases h : i < 8
  · simp [h]
  · have e : 8 + (i - 8) = i := by omega
    have l : i - 8 < 8 := by omega
    simp [h, e, l]

/-- A CRC equals two joined bytes exactly when they are its high and its low byte (00_scope.md R9). -/
theorem eq_joinBytes_iff (c : Crc) (hi lo : Byte) : c = joinBytes hi lo ↔ hi = crcHigh c ∧ lo = crcLow c := by
  constructor
  · rintro rfl
    constructor <;> apply BitVec.eq_of_getLsbD_eq <;> intro i h <;> unfold joinBytes
    · unfold crcHigh
      rw [BitVec.getLsbD_extractLsb', BitVec.getLsbD_append]
      have e : 8 + i - 8 = i := by omega
      have l : ¬ 8 + i < 8 := by omega
      simp [h, e, l]
    · unfold crcLow
      rw [BitVec.getLsbD_extractLsb', BitVec.getLsbD_append]
      simp [h]
  · rintro ⟨rfl, rfl⟩
    simp

end Sys2Proof.Machine
end

