-- ==== Sys2Proof/Laws/Encoding.lean ====
section
/-! SUPPORT. The laws of the command word's two fields (30_encoding.md R71): a word is its `OP` and its `DATA`. -/

namespace Sys2Proof.Machine

@[simp] theorem cmdOp_cmdWord (op : BitVec 4) (d : Byte) : cmdOp (cmdWord op d) = op := by
  apply BitVec.eq_of_getLsbD_eq
  intro i hi
  unfold cmdOp cmdWord
  rw [BitVec.getLsbD_extractLsb', BitVec.getLsbD_append]
  simp [hi]

@[simp] theorem cmdData_cmdWord (op : BitVec 4) (d : Byte) : cmdData (cmdWord op d) = d := by
  apply BitVec.eq_of_getLsbD_eq
  intro i hi
  unfold cmdData cmdWord
  rw [BitVec.getLsbD_extractLsb', BitVec.getLsbD_append]
  simp [hi]

theorem cmdWord_fields (w : Word) : cmdWord (cmdOp w) (cmdData w) = w := by
  apply BitVec.eq_of_getLsbD_eq
  intro i hi
  unfold cmdOp cmdWord cmdData
  rw [BitVec.getLsbD_append, BitVec.getLsbD_extractLsb', BitVec.getLsbD_extractLsb']
  by_cases h : i < 8
  · simp [h]
  · have e : 8 + (i - 8) = i := by omega
    have l : i - 8 < 4 := by omega
    simp [h, e, l]

/-- The sixteen values of `OP`. -/
theorem op_cases : ∀ op : BitVec 4, op = 0x0 ∨ op = 0x1 ∨ op = 0x2 ∨ op = 0x3 ∨ op = 0x4 ∨ op = 0x5 ∨ op = 0x6 ∨
    op = 0x7 ∨ op = 0x8 ∨ op = 0x9 ∨ op = 0xA ∨ op = 0xB ∨ op = 0xC ∨ op = 0xD ∨ op = 0xE ∨ op = 0xF := by
  decide

end Sys2Proof.Machine
end

