-- ==== Sys2Proof/Laws/Memory.lean ====
section
/-! SUPPORT. The laws of the accumulation buffer: read after write, and that a write keeps the canonical form. -/

namespace Sys2Proof.Machine

@[simp] theorem bufRead_nil (a : Nat) : bufRead [] a = none := rfl

/-- A cell below every listed index of a canonical buffer is not listed. -/
theorem bufRead_below {m : Buffer} {lo a : Nat} (h : bufWfFrom lo m = true) (ha : a < lo) :
    bufRead m a = none := by
  induction m generalizing lo with
  | nil => rfl
  | cons c cs ih =>
    simp only [bufWfFrom, Bool.and_eq_true, decide_eq_true_eq] at h
    have hne : c.1 ≠ a := by omega
    simp [bufRead, hne, ih h.2 (by omega)]

theorem bufRead_bufWrite_same (m : Buffer) (a : Nat) (b : Byte) : bufRead (bufWrite m a b) a = some b := by
  induction m with
  | nil => simp [bufWrite, bufRead]
  | cons c cs ih =>
    simp only [bufWrite]
    split
    · simp [bufRead]
    · split
      · simp [bufRead]
      · rename_i h1 h2
        simp [bufRead, Ne.symm h2, ih]

theorem bufRead_bufWrite_other (m : Buffer) {a a' : Nat} (b : Byte) (h : a' ≠ a) :
    bufRead (bufWrite m a b) a' = bufRead m a' := by
  induction m with
  | nil => simp [bufWrite, bufRead, Ne.symm h]
  | cons c cs ih =>
    simp only [bufWrite]
    split
    · simp [bufRead, Ne.symm h]
    · split
      · rename_i h1 h2
        simp [bufRead, ← h2, Ne.symm h]
      · simp only [bufRead, ih]

/-- Weakening the lower bound of the canonical form. -/
theorem bufWfFrom_mono {m : Buffer} {lo lo' : Nat} (h : bufWfFrom lo m = true) (hle : lo' ≤ lo) :
    bufWfFrom lo' m = true := by
  cases m with
  | nil => rfl
  | cons c cs =>
    simp only [bufWfFrom, Bool.and_eq_true, decide_eq_true_eq] at h ⊢
    exact ⟨⟨by omega, h.1.2⟩, h.2⟩

theorem bufWfFrom_bufWrite {m : Buffer} {lo a : Nat} (b : Byte) (h : bufWfFrom lo m = true) (hlo : lo ≤ a)
    (ha : a < bufCap) : bufWfFrom lo (bufWrite m a b) = true := by
  induction m generalizing lo with
  | nil => simp [bufWrite, bufWfFrom, hlo, ha]
  | cons c cs ih =>
    simp only [bufWfFrom, Bool.and_eq_true, decide_eq_true_eq] at h
    simp only [bufWrite]
    split
    · rename_i hlt
      simp only [bufWfFrom, Bool.and_eq_true, decide_eq_true_eq]
      exact ⟨⟨hlo, ha⟩, ⟨by omega, h.1.2⟩, h.2⟩
    · split
      · rename_i h1 h2
        subst h2
        simp only [bufWfFrom, Bool.and_eq_true, decide_eq_true_eq]
        exact ⟨⟨hlo, ha⟩, h.2⟩
      · rename_i h1 h2
        simp only [bufWfFrom, Bool.and_eq_true, decide_eq_true_eq]
        exact ⟨h.1, ih h.2 (by omega)⟩

/-- A write inside the buffer keeps the canonical form. -/
theorem bufWf_bufWrite {m : Buffer} {a : Nat} (b : Byte) (h : bufWf m = true) (ha : a < bufCap) :
    bufWf (bufWrite m a b) = true := bufWfFrom_bufWrite b h (Nat.zero_le a) ha

/-- The canonical form holds at construction. -/
theorem bufWf_construct (c : Config) : bufWf (State.construct c).buf = true := rfl

/-- A canonical buffer lists no index at or above its capacity. -/
theorem bufRead_beyond {m : Buffer} {lo a : Nat} (h : bufWfFrom lo m = true) (ha : bufCap ≤ a) :
    bufRead m a = none := by
  induction m generalizing lo with
  | nil => rfl
  | cons c cs ih =>
    simp only [bufWfFrom, Bool.and_eq_true, decide_eq_true_eq] at h
    have hne : c.1 ≠ a := by omega
    simp [bufRead, hne, ih h.2]

/-- Every operation over the buffer keeps the canonical form: `append` is the only one that writes. -/
theorem bufWf_append {s : State} (b : Byte) (h : bufWf s.buf = true) : bufWf (append b s).buf = true := by
  unfold append
  split
  · exact bufWf_bufWrite b h (by assumption)
  · exact h

end Sys2Proof.Machine
end

