-- ==== Sys2Proof/Laws/State.lean ====
section
/-! SUPPORT. What each record update does to each field of the state: one lemma per field per update, so
that no later proof unfolds an update. -/

namespace Sys2Proof.Machine

variable (s : State)

/-! ### beginStep -/

@[simp] theorem beginStep_cfg : (beginStep s).cfg = s.cfg := rfl
@[simp] theorem beginStep_stream : (beginStep s).stream = s.stream := rfl
@[simp] theorem beginStep_out : (beginStep s).out = Output.none := rfl
@[simp] theorem beginStep_fsm : (beginStep s).fsm = s.fsm := rfl
@[simp] theorem beginStep_len : (beginStep s).len = s.len := rfl
@[simp] theorem beginStep_ovf : (beginStep s).ovf = s.ovf := rfl
@[simp] theorem beginStep_buf : (beginStep s).buf = s.buf := rfl
@[simp] theorem beginStep_t15 : (beginStep s).t15 = s.t15 := rfl
@[simp] theorem beginStep_t35 : (beginStep s).t35 = s.t35 := rfl
@[simp] theorem beginStep_crcAcc : (beginStep s).crcAcc = s.crcAcc := rfl
@[simp] theorem beginStep_txCrc : (beginStep s).txCrc = s.txCrc := rfl
@[simp] theorem beginStep_txEn : (beginStep s).txEn = s.txEn := rfl
@[simp] theorem beginStep_run : (beginStep s).run = s.run := rfl

/-! ### setStream -/

@[simp] theorem setStream_cfg (ws : List Word) : (setStream ws s).cfg = s.cfg := rfl
@[simp] theorem setStream_stream (ws : List Word) : (setStream ws s).stream = ws := rfl
@[simp] theorem setStream_out (ws : List Word) : (setStream ws s).out = s.out := rfl
@[simp] theorem setStream_fsm (ws : List Word) : (setStream ws s).fsm = s.fsm := rfl
@[simp] theorem setStream_len (ws : List Word) : (setStream ws s).len = s.len := rfl
@[simp] theorem setStream_ovf (ws : List Word) : (setStream ws s).ovf = s.ovf := rfl
@[simp] theorem setStream_buf (ws : List Word) : (setStream ws s).buf = s.buf := rfl
@[simp] theorem setStream_t15 (ws : List Word) : (setStream ws s).t15 = s.t15 := rfl
@[simp] theorem setStream_t35 (ws : List Word) : (setStream ws s).t35 = s.t35 := rfl
@[simp] theorem setStream_crcAcc (ws : List Word) : (setStream ws s).crcAcc = s.crcAcc := rfl
@[simp] theorem setStream_txCrc (ws : List Word) : (setStream ws s).txCrc = s.txCrc := rfl
@[simp] theorem setStream_txEn (ws : List Word) : (setStream ws s).txEn = s.txEn := rfl
@[simp] theorem setStream_run (ws : List Word) : (setStream ws s).run = s.run := rfl

/-! ### emit -/

@[simp] theorem emit_cfg (f : List Byte) : (emit f s).cfg = s.cfg := rfl
@[simp] theorem emit_stream (f : List Byte) : (emit f s).stream = s.stream := rfl
@[simp] theorem emit_out (f : List Byte) : (emit f s).out = { s.out with frameOut := some f } := rfl
@[simp] theorem emit_fsm (f : List Byte) : (emit f s).fsm = s.fsm := rfl
@[simp] theorem emit_len (f : List Byte) : (emit f s).len = s.len := rfl
@[simp] theorem emit_ovf (f : List Byte) : (emit f s).ovf = s.ovf := rfl
@[simp] theorem emit_buf (f : List Byte) : (emit f s).buf = s.buf := rfl
@[simp] theorem emit_t15 (f : List Byte) : (emit f s).t15 = s.t15 := rfl
@[simp] theorem emit_t35 (f : List Byte) : (emit f s).t35 = s.t35 := rfl
@[simp] theorem emit_crcAcc (f : List Byte) : (emit f s).crcAcc = s.crcAcc := rfl
@[simp] theorem emit_txCrc (f : List Byte) : (emit f s).txCrc = s.txCrc := rfl
@[simp] theorem emit_txEn (f : List Byte) : (emit f s).txEn = s.txEn := rfl
@[simp] theorem emit_run (f : List Byte) : (emit f s).run = s.run := rfl

/-! ### wire -/

@[simp] theorem wire_cfg (bs : List Byte) : (wire bs s).cfg = s.cfg := rfl
@[simp] theorem wire_stream (bs : List Byte) : (wire bs s).stream = s.stream := rfl
@[simp] theorem wire_out (bs : List Byte) : (wire bs s).out = { s.out with wireOut := bs } := rfl
@[simp] theorem wire_fsm (bs : List Byte) : (wire bs s).fsm = s.fsm := rfl
@[simp] theorem wire_len (bs : List Byte) : (wire bs s).len = s.len := rfl
@[simp] theorem wire_ovf (bs : List Byte) : (wire bs s).ovf = s.ovf := rfl
@[simp] theorem wire_buf (bs : List Byte) : (wire bs s).buf = s.buf := rfl
@[simp] theorem wire_t15 (bs : List Byte) : (wire bs s).t15 = s.t15 := rfl
@[simp] theorem wire_t35 (bs : List Byte) : (wire bs s).t35 = s.t35 := rfl
@[simp] theorem wire_crcAcc (bs : List Byte) : (wire bs s).crcAcc = s.crcAcc := rfl
@[simp] theorem wire_txCrc (bs : List Byte) : (wire bs s).txCrc = s.txCrc := rfl
@[simp] theorem wire_txEn (bs : List Byte) : (wire bs s).txEn = s.txEn := rfl
@[simp] theorem wire_run (bs : List Byte) : (wire bs s).run = s.run := rfl

/-! ### raiseFramingError -/

@[simp] theorem raiseFramingError_cfg (c : FramingError) : (raiseFramingError c s).cfg = s.cfg := rfl
@[simp] theorem raiseFramingError_stream (c : FramingError) : (raiseFramingError c s).stream = s.stream := rfl
@[simp] theorem raiseFramingError_out (c : FramingError) : (raiseFramingError c s).out = { s.out with frameOut := none } := rfl
@[simp] theorem raiseFramingError_fsm (c : FramingError) : (raiseFramingError c s).fsm = s.fsm := rfl
@[simp] theorem raiseFramingError_len (c : FramingError) : (raiseFramingError c s).len = s.len := rfl
@[simp] theorem raiseFramingError_ovf (c : FramingError) : (raiseFramingError c s).ovf = s.ovf := rfl
@[simp] theorem raiseFramingError_buf (c : FramingError) : (raiseFramingError c s).buf = s.buf := rfl
@[simp] theorem raiseFramingError_t15 (c : FramingError) : (raiseFramingError c s).t15 = s.t15 := rfl
@[simp] theorem raiseFramingError_t35 (c : FramingError) : (raiseFramingError c s).t35 = s.t35 := rfl
@[simp] theorem raiseFramingError_crcAcc (c : FramingError) : (raiseFramingError c s).crcAcc = s.crcAcc := rfl
@[simp] theorem raiseFramingError_txCrc (c : FramingError) : (raiseFramingError c s).txCrc = s.txCrc := rfl
@[simp] theorem raiseFramingError_txEn (c : FramingError) : (raiseFramingError c s).txEn = s.txEn := rfl
@[simp] theorem raiseFramingError_run (c : FramingError) : (raiseFramingError c s).run = s.run := rfl

/-! ### setFsm -/

@[simp] theorem setFsm_cfg (x : Fsm) : (setFsm x s).cfg = s.cfg := rfl
@[simp] theorem setFsm_stream (x : Fsm) : (setFsm x s).stream = s.stream := rfl
@[simp] theorem setFsm_out (x : Fsm) : (setFsm x s).out = s.out := rfl
@[simp] theorem setFsm_fsm (x : Fsm) : (setFsm x s).fsm = x := rfl
@[simp] theorem setFsm_len (x : Fsm) : (setFsm x s).len = s.len := rfl
@[simp] theorem setFsm_ovf (x : Fsm) : (setFsm x s).ovf = s.ovf := rfl
@[simp] theorem setFsm_buf (x : Fsm) : (setFsm x s).buf = s.buf := rfl
@[simp] theorem setFsm_t15 (x : Fsm) : (setFsm x s).t15 = s.t15 := rfl
@[simp] theorem setFsm_t35 (x : Fsm) : (setFsm x s).t35 = s.t35 := rfl
@[simp] theorem setFsm_crcAcc (x : Fsm) : (setFsm x s).crcAcc = s.crcAcc := rfl
@[simp] theorem setFsm_txCrc (x : Fsm) : (setFsm x s).txCrc = s.txCrc := rfl
@[simp] theorem setFsm_txEn (x : Fsm) : (setFsm x s).txEn = s.txEn := rfl
@[simp] theorem setFsm_run (x : Fsm) : (setFsm x s).run = s.run := rfl

/-! ### clearLen -/

@[simp] theorem clearLen_cfg : (clearLen s).cfg = s.cfg := rfl
@[simp] theorem clearLen_stream : (clearLen s).stream = s.stream := rfl
@[simp] theorem clearLen_out : (clearLen s).out = s.out := rfl
@[simp] theorem clearLen_fsm : (clearLen s).fsm = s.fsm := rfl
@[simp] theorem clearLen_len : (clearLen s).len = 0 := rfl
@[simp] theorem clearLen_ovf : (clearLen s).ovf = s.ovf := rfl
@[simp] theorem clearLen_buf : (clearLen s).buf = s.buf := rfl
@[simp] theorem clearLen_t15 : (clearLen s).t15 = s.t15 := rfl
@[simp] theorem clearLen_t35 : (clearLen s).t35 = s.t35 := rfl
@[simp] theorem clearLen_crcAcc : (clearLen s).crcAcc = s.crcAcc := rfl
@[simp] theorem clearLen_txCrc : (clearLen s).txCrc = s.txCrc := rfl
@[simp] theorem clearLen_txEn : (clearLen s).txEn = s.txEn := rfl
@[simp] theorem clearLen_run : (clearLen s).run = s.run := rfl

/-! ### setOvf -/

@[simp] theorem setOvf_cfg : (setOvf s).cfg = s.cfg := rfl
@[simp] theorem setOvf_stream : (setOvf s).stream = s.stream := rfl
@[simp] theorem setOvf_out : (setOvf s).out = s.out := rfl
@[simp] theorem setOvf_fsm : (setOvf s).fsm = s.fsm := rfl
@[simp] theorem setOvf_len : (setOvf s).len = s.len := rfl
@[simp] theorem setOvf_ovf : (setOvf s).ovf = true := rfl
@[simp] theorem setOvf_buf : (setOvf s).buf = s.buf := rfl
@[simp] theorem setOvf_t15 : (setOvf s).t15 = s.t15 := rfl
@[simp] theorem setOvf_t35 : (setOvf s).t35 = s.t35 := rfl
@[simp] theorem setOvf_crcAcc : (setOvf s).crcAcc = s.crcAcc := rfl
@[simp] theorem setOvf_txCrc : (setOvf s).txCrc = s.txCrc := rfl
@[simp] theorem setOvf_txEn : (setOvf s).txEn = s.txEn := rfl
@[simp] theorem setOvf_run : (setOvf s).run = s.run := rfl

/-! ### clearOvf -/

@[simp] theorem clearOvf_cfg : (clearOvf s).cfg = s.cfg := rfl
@[simp] theorem clearOvf_stream : (clearOvf s).stream = s.stream := rfl
@[simp] theorem clearOvf_out : (clearOvf s).out = s.out := rfl
@[simp] theorem clearOvf_fsm : (clearOvf s).fsm = s.fsm := rfl
@[simp] theorem clearOvf_len : (clearOvf s).len = s.len := rfl
@[simp] theorem clearOvf_ovf : (clearOvf s).ovf = false := rfl
@[simp] theorem clearOvf_buf : (clearOvf s).buf = s.buf := rfl
@[simp] theorem clearOvf_t15 : (clearOvf s).t15 = s.t15 := rfl
@[simp] theorem clearOvf_t35 : (clearOvf s).t35 = s.t35 := rfl
@[simp] theorem clearOvf_crcAcc : (clearOvf s).crcAcc = s.crcAcc := rfl
@[simp] theorem clearOvf_txCrc : (clearOvf s).txCrc = s.txCrc := rfl
@[simp] theorem clearOvf_txEn : (clearOvf s).txEn = s.txEn := rfl
@[simp] theorem clearOvf_run : (clearOvf s).run = s.run := rfl

/-! ### clearFrame -/

@[simp] theorem clearFrame_cfg : (clearFrame s).cfg = s.cfg := rfl
@[simp] theorem clearFrame_stream : (clearFrame s).stream = s.stream := rfl
@[simp] theorem clearFrame_out : (clearFrame s).out = s.out := rfl
@[simp] theorem clearFrame_fsm : (clearFrame s).fsm = s.fsm := rfl
@[simp] theorem clearFrame_len : (clearFrame s).len = 0 := rfl
@[simp] theorem clearFrame_ovf : (clearFrame s).ovf = false := rfl
@[simp] theorem clearFrame_buf : (clearFrame s).buf = s.buf := rfl
@[simp] theorem clearFrame_t15 : (clearFrame s).t15 = s.t15 := rfl
@[simp] theorem clearFrame_t35 : (clearFrame s).t35 = s.t35 := rfl
@[simp] theorem clearFrame_crcAcc : (clearFrame s).crcAcc = s.crcAcc := rfl
@[simp] theorem clearFrame_txCrc : (clearFrame s).txCrc = s.txCrc := rfl
@[simp] theorem clearFrame_txEn : (clearFrame s).txEn = s.txEn := rfl
@[simp] theorem clearFrame_run : (clearFrame s).run = s.run := rfl

/-! ### armT15 -/

@[simp] theorem armT15_cfg : (armT15 s).cfg = s.cfg := rfl
@[simp] theorem armT15_stream : (armT15 s).stream = s.stream := rfl
@[simp] theorem armT15_out : (armT15 s).out = s.out := rfl
@[simp] theorem armT15_fsm : (armT15 s).fsm = s.fsm := rfl
@[simp] theorem armT15_len : (armT15 s).len = s.len := rfl
@[simp] theorem armT15_ovf : (armT15 s).ovf = s.ovf := rfl
@[simp] theorem armT15_buf : (armT15 s).buf = s.buf := rfl
@[simp] theorem armT15_t15 : (armT15 s).t15 = Timer.armedWith (t15Ticks s.cfg) := rfl
@[simp] theorem armT15_t35 : (armT15 s).t35 = s.t35 := rfl
@[simp] theorem armT15_crcAcc : (armT15 s).crcAcc = s.crcAcc := rfl
@[simp] theorem armT15_txCrc : (armT15 s).txCrc = s.txCrc := rfl
@[simp] theorem armT15_txEn : (armT15 s).txEn = s.txEn := rfl
@[simp] theorem armT15_run : (armT15 s).run = s.run := rfl

/-! ### armT35 -/

@[simp] theorem armT35_cfg : (armT35 s).cfg = s.cfg := rfl
@[simp] theorem armT35_stream : (armT35 s).stream = s.stream := rfl
@[simp] theorem armT35_out : (armT35 s).out = s.out := rfl
@[simp] theorem armT35_fsm : (armT35 s).fsm = s.fsm := rfl
@[simp] theorem armT35_len : (armT35 s).len = s.len := rfl
@[simp] theorem armT35_ovf : (armT35 s).ovf = s.ovf := rfl
@[simp] theorem armT35_buf : (armT35 s).buf = s.buf := rfl
@[simp] theorem armT35_t15 : (armT35 s).t15 = s.t15 := rfl
@[simp] theorem armT35_t35 : (armT35 s).t35 = Timer.armedWith (t35Ticks s.cfg) := rfl
@[simp] theorem armT35_crcAcc : (armT35 s).crcAcc = s.crcAcc := rfl
@[simp] theorem armT35_txCrc : (armT35 s).txCrc = s.txCrc := rfl
@[simp] theorem armT35_txEn : (armT35 s).txEn = s.txEn := rfl
@[simp] theorem armT35_run : (armT35 s).run = s.run := rfl

/-! ### stopT15 -/

@[simp] theorem stopT15_cfg : (stopT15 s).cfg = s.cfg := rfl
@[simp] theorem stopT15_stream : (stopT15 s).stream = s.stream := rfl
@[simp] theorem stopT15_out : (stopT15 s).out = s.out := rfl
@[simp] theorem stopT15_fsm : (stopT15 s).fsm = s.fsm := rfl
@[simp] theorem stopT15_len : (stopT15 s).len = s.len := rfl
@[simp] theorem stopT15_ovf : (stopT15 s).ovf = s.ovf := rfl
@[simp] theorem stopT15_buf : (stopT15 s).buf = s.buf := rfl
@[simp] theorem stopT15_t15 : (stopT15 s).t15 = Timer.off := rfl
@[simp] theorem stopT15_t35 : (stopT15 s).t35 = s.t35 := rfl
@[simp] theorem stopT15_crcAcc : (stopT15 s).crcAcc = s.crcAcc := rfl
@[simp] theorem stopT15_txCrc : (stopT15 s).txCrc = s.txCrc := rfl
@[simp] theorem stopT15_txEn : (stopT15 s).txEn = s.txEn := rfl
@[simp] theorem stopT15_run : (stopT15 s).run = s.run := rfl

/-! ### stopT35 -/

@[simp] theorem stopT35_cfg : (stopT35 s).cfg = s.cfg := rfl
@[simp] theorem stopT35_stream : (stopT35 s).stream = s.stream := rfl
@[simp] theorem stopT35_out : (stopT35 s).out = s.out := rfl
@[simp] theorem stopT35_fsm : (stopT35 s).fsm = s.fsm := rfl
@[simp] theorem stopT35_len : (stopT35 s).len = s.len := rfl
@[simp] theorem stopT35_ovf : (stopT35 s).ovf = s.ovf := rfl
@[simp] theorem stopT35_buf : (stopT35 s).buf = s.buf := rfl
@[simp] theorem stopT35_t15 : (stopT35 s).t15 = s.t15 := rfl
@[simp] theorem stopT35_t35 : (stopT35 s).t35 = Timer.off := rfl
@[simp] theorem stopT35_crcAcc : (stopT35 s).crcAcc = s.crcAcc := rfl
@[simp] theorem stopT35_txCrc : (stopT35 s).txCrc = s.txCrc := rfl
@[simp] theorem stopT35_txEn : (stopT35 s).txEn = s.txEn := rfl
@[simp] theorem stopT35_run : (stopT35 s).run = s.run := rfl

/-! ### countT15 -/

@[simp] theorem countT15_cfg : (countT15 s).cfg = s.cfg := rfl
@[simp] theorem countT15_stream : (countT15 s).stream = s.stream := rfl
@[simp] theorem countT15_out : (countT15 s).out = s.out := rfl
@[simp] theorem countT15_fsm : (countT15 s).fsm = s.fsm := rfl
@[simp] theorem countT15_len : (countT15 s).len = s.len := rfl
@[simp] theorem countT15_ovf : (countT15 s).ovf = s.ovf := rfl
@[simp] theorem countT15_buf : (countT15 s).buf = s.buf := rfl
@[simp] theorem countT15_t15 : (countT15 s).t15 = s.t15.countDown := rfl
@[simp] theorem countT15_t35 : (countT15 s).t35 = s.t35 := rfl
@[simp] theorem countT15_crcAcc : (countT15 s).crcAcc = s.crcAcc := rfl
@[simp] theorem countT15_txCrc : (countT15 s).txCrc = s.txCrc := rfl
@[simp] theorem countT15_txEn : (countT15 s).txEn = s.txEn := rfl
@[simp] theorem countT15_run : (countT15 s).run = s.run := rfl

/-! ### countT35 -/

@[simp] theorem countT35_cfg : (countT35 s).cfg = s.cfg := rfl
@[simp] theorem countT35_stream : (countT35 s).stream = s.stream := rfl
@[simp] theorem countT35_out : (countT35 s).out = s.out := rfl
@[simp] theorem countT35_fsm : (countT35 s).fsm = s.fsm := rfl
@[simp] theorem countT35_len : (countT35 s).len = s.len := rfl
@[simp] theorem countT35_ovf : (countT35 s).ovf = s.ovf := rfl
@[simp] theorem countT35_buf : (countT35 s).buf = s.buf := rfl
@[simp] theorem countT35_t15 : (countT35 s).t15 = s.t15 := rfl
@[simp] theorem countT35_t35 : (countT35 s).t35 = s.t35.countDown := rfl
@[simp] theorem countT35_crcAcc : (countT35 s).crcAcc = s.crcAcc := rfl
@[simp] theorem countT35_txCrc : (countT35 s).txCrc = s.txCrc := rfl
@[simp] theorem countT35_txEn : (countT35 s).txEn = s.txEn := rfl
@[simp] theorem countT35_run : (countT35 s).run = s.run := rfl

/-! ### setCrcAcc -/

@[simp] theorem setCrcAcc_cfg (c : Crc) : (setCrcAcc c s).cfg = s.cfg := rfl
@[simp] theorem setCrcAcc_stream (c : Crc) : (setCrcAcc c s).stream = s.stream := rfl
@[simp] theorem setCrcAcc_out (c : Crc) : (setCrcAcc c s).out = s.out := rfl
@[simp] theorem setCrcAcc_fsm (c : Crc) : (setCrcAcc c s).fsm = s.fsm := rfl
@[simp] theorem setCrcAcc_len (c : Crc) : (setCrcAcc c s).len = s.len := rfl
@[simp] theorem setCrcAcc_ovf (c : Crc) : (setCrcAcc c s).ovf = s.ovf := rfl
@[simp] theorem setCrcAcc_buf (c : Crc) : (setCrcAcc c s).buf = s.buf := rfl
@[simp] theorem setCrcAcc_t15 (c : Crc) : (setCrcAcc c s).t15 = s.t15 := rfl
@[simp] theorem setCrcAcc_t35 (c : Crc) : (setCrcAcc c s).t35 = s.t35 := rfl
@[simp] theorem setCrcAcc_crcAcc (c : Crc) : (setCrcAcc c s).crcAcc = c := rfl
@[simp] theorem setCrcAcc_txCrc (c : Crc) : (setCrcAcc c s).txCrc = s.txCrc := rfl
@[simp] theorem setCrcAcc_txEn (c : Crc) : (setCrcAcc c s).txEn = s.txEn := rfl
@[simp] theorem setCrcAcc_run (c : Crc) : (setCrcAcc c s).run = s.run := rfl

/-! ### setTxCrc -/

@[simp] theorem setTxCrc_cfg (c : Crc) : (setTxCrc c s).cfg = s.cfg := rfl
@[simp] theorem setTxCrc_stream (c : Crc) : (setTxCrc c s).stream = s.stream := rfl
@[simp] theorem setTxCrc_out (c : Crc) : (setTxCrc c s).out = s.out := rfl
@[simp] theorem setTxCrc_fsm (c : Crc) : (setTxCrc c s).fsm = s.fsm := rfl
@[simp] theorem setTxCrc_len (c : Crc) : (setTxCrc c s).len = s.len := rfl
@[simp] theorem setTxCrc_ovf (c : Crc) : (setTxCrc c s).ovf = s.ovf := rfl
@[simp] theorem setTxCrc_buf (c : Crc) : (setTxCrc c s).buf = s.buf := rfl
@[simp] theorem setTxCrc_t15 (c : Crc) : (setTxCrc c s).t15 = s.t15 := rfl
@[simp] theorem setTxCrc_t35 (c : Crc) : (setTxCrc c s).t35 = s.t35 := rfl
@[simp] theorem setTxCrc_crcAcc (c : Crc) : (setTxCrc c s).crcAcc = s.crcAcc := rfl
@[simp] theorem setTxCrc_txCrc (c : Crc) : (setTxCrc c s).txCrc = c := rfl
@[simp] theorem setTxCrc_txEn (c : Crc) : (setTxCrc c s).txEn = s.txEn := rfl
@[simp] theorem setTxCrc_run (c : Crc) : (setTxCrc c s).run = s.run := rfl

/-! ### setTxEn -/

@[simp] theorem setTxEn_cfg : (setTxEn s).cfg = s.cfg := rfl
@[simp] theorem setTxEn_stream : (setTxEn s).stream = s.stream := rfl
@[simp] theorem setTxEn_out : (setTxEn s).out = s.out := rfl
@[simp] theorem setTxEn_fsm : (setTxEn s).fsm = s.fsm := rfl
@[simp] theorem setTxEn_len : (setTxEn s).len = s.len := rfl
@[simp] theorem setTxEn_ovf : (setTxEn s).ovf = s.ovf := rfl
@[simp] theorem setTxEn_buf : (setTxEn s).buf = s.buf := rfl
@[simp] theorem setTxEn_t15 : (setTxEn s).t15 = s.t15 := rfl
@[simp] theorem setTxEn_t35 : (setTxEn s).t35 = s.t35 := rfl
@[simp] theorem setTxEn_crcAcc : (setTxEn s).crcAcc = s.crcAcc := rfl
@[simp] theorem setTxEn_txCrc : (setTxEn s).txCrc = s.txCrc := rfl
@[simp] theorem setTxEn_txEn : (setTxEn s).txEn = true := rfl
@[simp] theorem setTxEn_run : (setTxEn s).run = s.run := rfl

/-! ### clearTxEn -/

@[simp] theorem clearTxEn_cfg : (clearTxEn s).cfg = s.cfg := rfl
@[simp] theorem clearTxEn_stream : (clearTxEn s).stream = s.stream := rfl
@[simp] theorem clearTxEn_out : (clearTxEn s).out = s.out := rfl
@[simp] theorem clearTxEn_fsm : (clearTxEn s).fsm = s.fsm := rfl
@[simp] theorem clearTxEn_len : (clearTxEn s).len = s.len := rfl
@[simp] theorem clearTxEn_ovf : (clearTxEn s).ovf = s.ovf := rfl
@[simp] theorem clearTxEn_buf : (clearTxEn s).buf = s.buf := rfl
@[simp] theorem clearTxEn_t15 : (clearTxEn s).t15 = s.t15 := rfl
@[simp] theorem clearTxEn_t35 : (clearTxEn s).t35 = s.t35 := rfl
@[simp] theorem clearTxEn_crcAcc : (clearTxEn s).crcAcc = s.crcAcc := rfl
@[simp] theorem clearTxEn_txCrc : (clearTxEn s).txCrc = s.txCrc := rfl
@[simp] theorem clearTxEn_txEn : (clearTxEn s).txEn = false := rfl
@[simp] theorem clearTxEn_run : (clearTxEn s).run = s.run := rfl

/-! ### setRun -/

@[simp] theorem setRun_cfg : (setRun s).cfg = s.cfg := rfl
@[simp] theorem setRun_stream : (setRun s).stream = s.stream := rfl
@[simp] theorem setRun_out : (setRun s).out = s.out := rfl
@[simp] theorem setRun_fsm : (setRun s).fsm = s.fsm := rfl
@[simp] theorem setRun_len : (setRun s).len = s.len := rfl
@[simp] theorem setRun_ovf : (setRun s).ovf = s.ovf := rfl
@[simp] theorem setRun_buf : (setRun s).buf = s.buf := rfl
@[simp] theorem setRun_t15 : (setRun s).t15 = s.t15 := rfl
@[simp] theorem setRun_t35 : (setRun s).t35 = s.t35 := rfl
@[simp] theorem setRun_crcAcc : (setRun s).crcAcc = s.crcAcc := rfl
@[simp] theorem setRun_txCrc : (setRun s).txCrc = s.txCrc := rfl
@[simp] theorem setRun_txEn : (setRun s).txEn = s.txEn := rfl
@[simp] theorem setRun_run : (setRun s).run = true := rfl

/-! ### clearRun -/

@[simp] theorem clearRun_cfg : (clearRun s).cfg = s.cfg := rfl
@[simp] theorem clearRun_stream : (clearRun s).stream = s.stream := rfl
@[simp] theorem clearRun_out : (clearRun s).out = s.out := rfl
@[simp] theorem clearRun_fsm : (clearRun s).fsm = s.fsm := rfl
@[simp] theorem clearRun_len : (clearRun s).len = s.len := rfl
@[simp] theorem clearRun_ovf : (clearRun s).ovf = s.ovf := rfl
@[simp] theorem clearRun_buf : (clearRun s).buf = s.buf := rfl
@[simp] theorem clearRun_t15 : (clearRun s).t15 = s.t15 := rfl
@[simp] theorem clearRun_t35 : (clearRun s).t35 = s.t35 := rfl
@[simp] theorem clearRun_crcAcc : (clearRun s).crcAcc = s.crcAcc := rfl
@[simp] theorem clearRun_txCrc : (clearRun s).txCrc = s.txCrc := rfl
@[simp] theorem clearRun_txEn : (clearRun s).txEn = s.txEn := rfl
@[simp] theorem clearRun_run : (clearRun s).run = false := rfl

/-! ### toIdle -/

@[simp] theorem toIdle_cfg : (toIdle s).cfg = s.cfg := rfl
@[simp] theorem toIdle_stream : (toIdle s).stream = s.stream := rfl
@[simp] theorem toIdle_out : (toIdle s).out = s.out := rfl
@[simp] theorem toIdle_fsm : (toIdle s).fsm = .idle := rfl
@[simp] theorem toIdle_len : (toIdle s).len = 0 := rfl
@[simp] theorem toIdle_ovf : (toIdle s).ovf = false := rfl
@[simp] theorem toIdle_buf : (toIdle s).buf = s.buf := rfl
@[simp] theorem toIdle_t15 : (toIdle s).t15 = s.t15 := rfl
@[simp] theorem toIdle_t35 : (toIdle s).t35 = s.t35 := rfl
@[simp] theorem toIdle_crcAcc : (toIdle s).crcAcc = s.crcAcc := rfl
@[simp] theorem toIdle_txCrc : (toIdle s).txCrc = s.txCrc := rfl
@[simp] theorem toIdle_txEn : (toIdle s).txEn = s.txEn := rfl
@[simp] theorem toIdle_run : (toIdle s).run = s.run := rfl

/-! ### Timers and outputs -/

@[simp] theorem armedWith_armed (n : Nat) : (Timer.armedWith n).armed = true := rfl
@[simp] theorem armedWith_count (n : Nat) : (Timer.armedWith n).count = BitVec.ofNat 32 n := rfl
@[simp] theorem off_armed : Timer.off.armed = false := rfl
@[simp] theorem off_count : Timer.off.count = 0#32 := rfl
@[simp] theorem countDown_armed (t : Timer) : t.countDown.armed = t.armed := rfl
@[simp] theorem countDown_count (t : Timer) : t.countDown.count = t.count - 1#32 := rfl
@[simp] theorem none_frameOut : Output.none.frameOut = none := rfl
@[simp] theorem none_wireOut : Output.none.wireOut = [] := rfl

end Sys2Proof.Machine
end

