-- ==== Sys2Proof/Laws/Ops.lean ====
section
/-! SUPPORT. One lemma per shared operation that says everything it can do; later proofs cite these and
unfold no operation. -/

namespace Sys2Proof.Machine

/-! ### append (20_memory.md R51) -/

theorem append_cases (b : Byte) (s : State) :
    (∃ h : s.len.val < bufCap, append b s =
      { s with buf := bufWrite s.buf s.len.val b, len := ⟨s.len.val + 1, Nat.succ_lt_succ h⟩ }) ∨
    (s.len.val = bufCap ∧ append b s = { s with ovf := true }) := by
  unfold append
  split
  · exact .inl ⟨by assumption, rfl⟩
  · exact .inr ⟨by have := s.len.isLt; omega, rfl⟩

section
variable (b : Byte) (s : State)
@[simp] theorem append_cfg : (append b s).cfg = s.cfg := by unfold append; split <;> rfl
@[simp] theorem append_stream : (append b s).stream = s.stream := by unfold append; split <;> rfl
@[simp] theorem append_out : (append b s).out = s.out := by unfold append; split <;> rfl
@[simp] theorem append_fsm : (append b s).fsm = s.fsm := by unfold append; split <;> rfl
@[simp] theorem append_t15 : (append b s).t15 = s.t15 := by unfold append; split <;> rfl
@[simp] theorem append_t35 : (append b s).t35 = s.t35 := by unfold append; split <;> rfl
@[simp] theorem append_crcAcc : (append b s).crcAcc = s.crcAcc := by unfold append; split <;> rfl
@[simp] theorem append_txCrc : (append b s).txCrc = s.txCrc := by unfold append; split <;> rfl
@[simp] theorem append_txEn : (append b s).txEn = s.txEn := by unfold append; split <;> rfl
@[simp] theorem append_run : (append b s).run = s.run := by unfold append; split <;> rfl
end

/-- An append changes no cell but the one it stores to. -/
theorem append_read_other (b : Byte) (s : State) (a : Nat) (h : appendIndex s ≠ some a) :
    bufRead (append b s).buf a = bufRead s.buf a := by
  obtain ⟨hl, e⟩ | ⟨_, e⟩ := append_cases b s
  · rw [e]
    have : a ≠ s.len.val := fun ha => h (by simp [appendIndex, hl, ha])
    exact bufRead_bufWrite_other _ _ this
  · rw [e]

/-! ### start_frame (42_rtu_framer.md R130) -/

theorem startFrame_eq (d : Byte) (s : State) :
    startFrame d s =
      { s with buf := bufWrite s.buf 0 d, len := 1, ovf := false, t35 := Timer.off,
               t15 := Timer.armedWith (t15Ticks s.cfg), fsm := .receiving } := rfl

/-! ### The expiries (42_rtu_framer.md R136, R139, R143) -/

theorem t15Fire_cases (s : State) :
    (s.fsm = .receiving ∧ t15Fire s =
      { s with t15 := Timer.off, t35 := Timer.armedWith (t35Ticks s.cfg), fsm := .frameReady }) ∨
    (s.fsm ≠ .receiving ∧ t15Fire s = { s with t15 := Timer.off }) := by
  unfold t15Fire
  split
  · exact .inl ⟨by assumption, rfl⟩
  all_goals exact .inr ⟨by simp_all, rfl⟩

/-- Emission or discard changes the output of the step and nothing else. -/
theorem emitOrDiscard_eq (f : List Byte) (ovf : Bool) (s : State) :
    emitOrDiscard f ovf s =
      { s with out := { s.out with frameOut := if frameValid f ovf then some f else none } } := by
  unfold emitOrDiscard frameValid
  split <;> simp_all [emit, raiseFramingError]

theorem t35Fire_cases (s : State) :
    (s.fsm = .frameReady ∧ t35Fire s =
      { s with t35 := Timer.off, len := 0, ovf := false, fsm := .idle,
               out := { s.out with
                 frameOut := if frameValid (frameBytes s) s.ovf then some (frameBytes s) else none } }) ∨
    (s.fsm = .error ∧ t35Fire s = { s with t35 := Timer.off, len := 0, ovf := false, fsm := .idle }) ∨
    ((s.fsm = .idle ∨ s.fsm = .receiving) ∧ t35Fire s = { s with t35 := Timer.off }) := by
  unfold t35Fire
  split
  · refine .inl ⟨by assumption, ?_⟩
    rw [emitOrDiscard_eq]
    rfl
  · exact .inr (.inl ⟨by assumption, rfl⟩)
  · exact .inr (.inr ⟨.inl (by assumption), rfl⟩)
  · exact .inr (.inr ⟨.inr (by assumption), rfl⟩)

/-- A frame is valid exactly when no byte was dropped, it has at least four bytes and its CRC verifies. -/
theorem frameValid_iff (f : List Byte) (ovf : Bool) :
    frameValid f ovf = true ↔ ovf = false ∧ 4 ≤ f.length ∧ verify f = true := by
  unfold frameValid frameCause
  cases ovf <;> simp
  split
  · simp; omega
  · split <;> simp_all

@[simp] theorem frameBytes_length (s : State) : (frameBytes s).length = s.len.val := by
  simp [frameBytes]

/-! ### The halves of TICK (40_timing_unit.md R98) -/

theorem tickT15_cases (a : Bool) (s : State) :
    (a = false ∧ tickT15 a s = s) ∨
    (a = true ∧ s.t15.count - 1#32 ≠ 0#32 ∧ tickT15 a s = countT15 s) ∨
    (a = true ∧ s.t15.count - 1#32 = 0#32 ∧ tickT15 a s = t15Fire (countT15 s)) := by
  unfold tickT15
  cases a
  · exact .inl ⟨rfl, rfl⟩
  · by_cases h : s.t15.count - 1#32 = 0#32
    · exact .inr (.inr ⟨rfl, h, by simp [h]⟩)
    · exact .inr (.inl ⟨rfl, h, by simp [h]⟩)

theorem tickT35_cases (a : Bool) (s : State) :
    ((a && s.t35.armed) = false ∧ tickT35 a s = s) ∨
    ((a && s.t35.armed) = true ∧ s.t35.count - 1#32 ≠ 0#32 ∧ tickT35 a s = countT35 s) ∨
    ((a && s.t35.armed) = true ∧ s.t35.count - 1#32 = 0#32 ∧ tickT35 a s = t35Fire (countT35 s)) := by
  unfold tickT35
  cases hb : (a && s.t35.armed)
  · exact .inl ⟨rfl, by simp⟩
  · by_cases h : s.t35.count - 1#32 = 0#32
    · exact .inr (.inr ⟨rfl, h, by simp [h]⟩)
    · exact .inr (.inl ⟨rfl, h, by simp [h]⟩)

/-- The t1.5 half of a tick writes `T15`, `T35` and `STATE` only. -/
theorem tickT15_keeps (a : Bool) (s : State) :
    (tickT15 a s).cfg = s.cfg ∧ (tickT15 a s).stream = s.stream ∧ (tickT15 a s).buf = s.buf ∧
    (tickT15 a s).len = s.len ∧ (tickT15 a s).ovf = s.ovf ∧ (tickT15 a s).out = s.out ∧
    (tickT15 a s).crcAcc = s.crcAcc ∧ (tickT15 a s).txCrc = s.txCrc ∧ (tickT15 a s).txEn = s.txEn ∧
    (tickT15 a s).run = s.run := by
  obtain ⟨_, e⟩ | ⟨_, _, e⟩ | ⟨_, _, e⟩ := tickT15_cases a s <;> rw [e] <;> try simp
  obtain ⟨_, e⟩ | ⟨_, e⟩ := t15Fire_cases (countT15 s) <;> rw [e] <;> simp

/-- The t3.5 half of a tick leaves the buffer, `T15`, `RUN`, the CRC registers, the transmit side and the wired
bytes alone. -/
theorem tickT35_keeps (a : Bool) (s : State) :
    (tickT35 a s).cfg = s.cfg ∧ (tickT35 a s).stream = s.stream ∧ (tickT35 a s).buf = s.buf ∧
    (tickT35 a s).crcAcc = s.crcAcc ∧ (tickT35 a s).txCrc = s.txCrc ∧ (tickT35 a s).txEn = s.txEn ∧
    (tickT35 a s).run = s.run ∧ (tickT35 a s).out.wireOut = s.out.wireOut ∧ (tickT35 a s).t15 = s.t15 := by
  obtain ⟨_, e⟩ | ⟨_, _, e⟩ | ⟨_, _, e⟩ := tickT35_cases a s <;> rw [e] <;> try simp
  obtain ⟨_, e⟩ | ⟨_, e⟩ | ⟨_, e⟩ := t35Fire_cases (countT35 s) <;> rw [e] <;> simp

/-! ### Accepting a byte (42_rtu_framer.md R130 to R134) -/

theorem acceptByte_cases (d : Byte) (s : State) :
    (s.fsm = .receiving ∧ acceptByte d s = armT15 (append d s)) ∨
    (s.fsm ≠ .receiving ∧ ∃ o, acceptByte d s = startFrame d { s with out := o } ∧
      o.wireOut = s.out.wireOut ∧ (s.out.frameOut = none → o = s.out)) := by
  unfold acceptByte
  split
  · exact .inr ⟨by simp_all, s.out, rfl, rfl, fun _ => rfl⟩
  · exact .inl ⟨by assumption, rfl⟩
  · refine .inr ⟨by simp_all, { s.out with frameOut := none }, rfl, rfl, fun h => ?_⟩
    rw [← h]
  · exact .inr ⟨by simp_all, s.out, rfl, rfl, fun _ => rfl⟩

/-! ### Fetching a command -/

theorem fetch_word {s : State} {w : Word} {rest : List Word} (hc : configLegal s.cfg = true)
    (hs : s.stream = w :: rest) : fetch s = .word w rest := by
  simp [fetch, hc, hs]

theorem fetch_nothing {s : State} (hc : configLegal s.cfg = true) (hs : s.stream = []) :
    fetch s = .nothing := by
  simp [fetch, hc, hs]

theorem fetch_illegal {s : State} (hc : configLegal s.cfg = false) : fetch s = .illegalConfig := by
  simp [fetch, hc]

end Sys2Proof.Machine
end

