-- ==== Sys2Proof/Laws/PerInstr.lean ====
section
/-! SUPPORT. Families of statements for all commands, one lemma per constructor. -/

/-- The row of the opcode map with the command's mnemonic and format selects its encoding
(30_encoding.md R72, R73). -/
def Sys2Proof.Laws.OpcodeRow.Statement (i : Sys2Proof.Instr) : Prop :=
  ∃ r ∈ Sys2Proof.opcodeMap,
    r.mnemonic = i.mnemonic ∧ r.format = i.format ∧ r.selects (Sys2Proof.encode i) = true

namespace Sys2Proof.Laws.OpcodeRow

theorem rxByte : ∀ d : Byte, Statement (.rxByte d) := by unfold Statement; decide +kernel
theorem tick : Statement .tick := by unfold Statement; decide
theorem t15Expire : Statement .t15Expire := by unfold Statement; decide
theorem t35Expire : Statement .t35Expire := by unfold Statement; decide
theorem crcInit : Statement .crcInit := by unfold Statement; decide
theorem crcByte : ∀ d : Byte, Statement (.crcByte d) := by unfold Statement; decide +kernel
theorem txBegin : Statement .txBegin := by unfold Statement; decide
theorem txByte : ∀ d : Byte, Statement (.txByte d) := by unfold Statement; decide +kernel
theorem txEnd : Statement .txEnd := by unfold Statement; decide
theorem txAbort : Statement .txAbort := by unfold Statement; decide
theorem stop : Statement .stop := by unfold Statement; decide
theorem reset : Statement .reset := by unfold Statement; decide

end Sys2Proof.Laws.OpcodeRow
end

