-- ==== Sys2Proof/Laws/Run.lean ====
section
/-! SUPPORT. The unfolding laws of a run (70_reset_and_hazards.md R214). -/

namespace Sys2Proof.Machine

@[simp] theorem runCommands_nil (s : State) : runCommands [] s = some (s, []) := rfl

theorem runCommands_cons {i : Instr} {is : List Instr} {s t u : State} {outs : List Output}
    (h : exec i s = .next t) (hr : runCommands is t = some (u, outs)) :
    runCommands (i :: is) s = some (u, t.out :: outs) := by
  simp [runCommands, h, hr]

/-- What a run of a non-empty list that completes says of its first command. -/
theorem runCommands_cons_inv {i : Instr} {is : List Instr} {s u : State} {outs : List Output}
    (h : runCommands (i :: is) s = some (u, outs)) :
    ∃ t outs', exec i s = .next t ∧ runCommands is t = some (u, outs') ∧ outs = t.out :: outs' := by
  unfold runCommands at h
  split at h
  · rename_i t ht
    split at h
    · rename_i v os hv
      simp only [Option.some.injEq, Prod.mk.injEq] at h
      exact ⟨t, os, ht, by rw [← h.1]; exact hv, h.2.symm⟩
    · cases h
  all_goals cases h

@[simp] theorem ticks_zero : ticks 0 = [] := rfl

theorem ticks_succ (n : Nat) : ticks (n + 1) = .tick :: ticks n := rfl

theorem ticks_add (m n : Nat) : ticks (m + n) = ticks m ++ ticks n := List.replicate_add ..

@[simp] theorem framesOf_nil : framesOf [] = [] := rfl

@[simp] theorem wireOf_nil : wireOf [] = [] := rfl

@[simp] theorem framesOf_append (as bs : List Output) : framesOf (as ++ bs) = framesOf as ++ framesOf bs := by
  simp [framesOf]

@[simp] theorem wireOf_append (as bs : List Output) : wireOf (as ++ bs) = wireOf as ++ wireOf bs := by
  simp [wireOf]

end Sys2Proof.Machine
end

