-- ==== Sys2Proof/Machine/Text.lean ====
section
/-! DEFINITION. The textual form of a command stream (30_encoding.md R75): one item a line or separated by
`;`, mnemonics in capitals, byte operands as `0xNN`, comments from `--` to the end of the line.
What the spec leaves open in it (blanks, the spelling of byte lists) is said in log 8. -/

namespace Sys2Proof.Machine

/-- A hexadecimal digit in capitals. -/
def hexDigit (n : BitVec 4) : Char := "0123456789ABCDEF".toList.getD n.toNat '0'

/-- A byte as a hexadecimal literal `0xNN` (30_encoding.md R75). -/
def byteText (d : Byte) : String :=
  "0x" ++ String.ofList [hexDigit (d.extractLsb' 4 4), hexDigit (d.extractLsb' 0 4)]

/-- A command as text: the mnemonic, and the operand in format `B` (30_encoding.md R75). -/
def commandText (i : Instr) : String :=
  match i.format with
  | .B => i.mnemonic ++ " " ++ byteText i.data
  | .N => i.mnemonic

/-- The value of a hexadecimal digit, in either case. -/
def readHexDigit (c : Char) : Option (BitVec 4) :=
  if '0' ≤ c ∧ c ≤ '9' then some (BitVec.ofNat 4 (c.toNat - '0'.toNat))
  else if 'A' ≤ c ∧ c ≤ 'F' then some (BitVec.ofNat 4 (c.toNat - 'A'.toNat + 10))
  else if 'a' ≤ c ∧ c ≤ 'f' then some (BitVec.ofNat 4 (c.toNat - 'a'.toNat + 10))
  else none

/-- Two hexadecimal digits as a byte. -/
def readHexPair (hi lo : Char) : Option Byte := do
  let h ← readHexDigit hi
  let l ← readHexDigit lo
  some (h ++ l)

/-- A byte operand, `0xNN`. -/
def readOperand : List Char → Option Byte
  | ['0', 'x', hi, lo] => readHexPair hi lo
  | _ => none

/-- A byte of a byte list: `0xNN`, or `NN` as 95_test_vectors.md writes its lists. -/
def readListByte : List Char → Option Byte
  | [hi, lo] => readHexPair hi lo
  | t => readOperand t

/-- A byte list of at least one byte (`b0 ... bk`). -/
def readBytes : List (List Char) → Option (List Byte)
  | [] => none
  | [t] => (readListByte t).map fun b => [b]
  | t :: ts =>
    match readListByte t, readBytes ts with
    | some b, some bs => some (b :: bs)
    | _, _ => none

/-- Decimal digits as a number, continuing from `acc`. -/
def readDigits (acc : Nat) : List Char → Option Nat
  | [] => some acc
  | c :: cs => if c.isDigit then readDigits (acc * 10 + (c.toNat - '0'.toNat)) cs else none

/-- A decimal number of at least one digit. -/
def readNumber : List Char → Option Nat
  | [] => none
  | c :: cs => readDigits 0 (c :: cs)

/-- A command without operand, by its mnemonic. -/
def readPlain (t : List Char) : Option Instr :=
  [Instr.tick, .t15Expire, .t35Expire, .crcInit, .txBegin, .txEnd, .txAbort, .stop, .reset].find?
    fun i => i.mnemonic.toList == t

/-- A command with a byte operand, by its mnemonic. -/
def readWithByte (t : List Char) (d : Byte) : Option Instr :=
  [Instr.rxByte d, .crcByte d, .txByte d].find? fun i => i.mnemonic.toList == t

/-- The blank-separated words of one piece of text as an item of the stream. -/
def readItem : List (List Char) → Option StreamItem
  | [t] => if t = "SILENCE".toList then some .silence else (readPlain t).map .command
  | t :: ts =>
    if t = "RX_FRAME".toList then (readBytes ts).map .rxFrame
    else if t = "CRC16".toList then (readBytes ts).map .crc16
    else if t = "TX_FRAME".toList then (readBytes ts).map .txFrame
    else match ts with
      | [d] => (readOperand d).bind fun b => (readWithByte t b).map .command
      | [star, n] =>
        if t = "TICK".toList ∧ star = ['*'] then (readNumber n).map .ticks else none
      | g :: colon :: bs =>
        if t = "RX_FRAME_GAP".toList ∧ colon = [':'] then
          match readNumber g, readBytes bs with
          | some n, some l => some (.rxFrameGap n l)
          | _, _ => none
        else none
      | [] => none
  | [] => none

/-- Cut a text at every character that satisfies `p`. -/
def cutAt (p : Char → Bool) : List Char → List (List Char)
  | [] => [[]]
  | c :: cs =>
    match p c, cutAt p cs with
    | true, ws => [] :: ws
    | false, [] => [[c]]
    | false, w :: ws => (c :: w) :: ws

/-- A line without its comment. -/
def dropComment : List Char → List Char
  | [] => []
  | '-' :: '-' :: _ => []
  | c :: cs => c :: dropComment cs

/-- The blank-separated words of a piece of text. -/
def textWords (t : List Char) : List (List Char) :=
  (cutAt (fun c => c == ' ' || c == '\t' || c == '\r') t).filter fun w => !w.isEmpty

/-- The pieces of a text that hold an item, each as its words. -/
def textPieces (t : List Char) : List (List (List Char)) :=
  ((cutAt (· == '\n') t).flatMap fun l => (cutAt (· == ';') (dropComment l)).map textWords).filter
    fun ws => !ws.isEmpty

/-- The items, or none if some piece is not one. -/
def readItems : List (List (List Char)) → Option (List StreamItem)
  | [] => some []
  | p :: ps =>
    match readItem p, readItems ps with
    | some i, some is => some (i :: is)
    | _, _ => none

/-- The command stream a text stands for (30_encoding.md R75). -/
def readStream (t : String) : Option (List Instr) :=
  (readItems (textPieces t.toList)).map fun is => is.flatMap expandItem

end Sys2Proof.Machine
end

