-- ==== Sys2Proof/Tests/Slice0.lean ====
section
/-! SUPPORT. The model's own tests. Every expected result is a vector V<n> or a program P<n> of
95_test_vectors.md, an example of the command's rule, or hand calculation from a rule, as its comment says.
The theorems named witness_<Name> show that the hypotheses of Obligations.<Name> can be met together. -/

namespace Sys2Proof.Tests

open Sys2Proof Sys2Proof.Machine

/-- A field of the next state. -/
def after {α : Type} (o : Host.Outcome State Fault Refusal) (f : State → α) : Option α :=
  match o with
  | .next s => some (f s)
  | .fault _ => none
  | .refused _ => none

/-- What a step refuses with. -/
def refusal (o : Host.Outcome State Fault Refusal) : Option Refusal :=
  match o with
  | .next _ => none
  | .fault _ => none
  | .refused r => some r

/-- The configuration of 95_test_vectors.md: `T15_TICKS` = 750, `T35_TICKS` = 1750. -/
def s0 : State := State.construct Config.standard

/-- `Receiving` with one byte and `T15` at count `n`. -/
def receiving (n : Nat) : State :=
  { s0 with fsm := .receiving, len := 1, buf := [(0, 0x20)], t15 := Timer.armedWith n }

/-- `FrameReady` holding `20 03 58 71` (V42) with `T35` at count `n`. -/
def ready (n : Nat) : State :=
  { s0 with fsm := .frameReady, len := 4, buf := [(0, 0x20), (1, 0x03), (2, 0x58), (3, 0x71)],
            t35 := Timer.armedWith n }

/-- Transmitting, with the CRC after `20` (V59). -/
def sending : State := { s0 with txEn := true, txCrc := 0x98BE }

/-- A configuration that is not legal: no baud rate. -/
def noBaud : Config := { baud := 0 }

/-! ### Decoding: one word per command, written out from 30_encoding.md R72 -/

theorem test_decode_rxByte : decode 0b000100100000 = .ok (.rxByte 0x20) := by decide
theorem test_decode_tick : decode 0b001000000000 = .ok .tick := by decide
theorem test_decode_t15Expire : decode 0b001100000000 = .ok .t15Expire := by decide
theorem test_decode_t35Expire : decode 0b010000000000 = .ok .t35Expire := by decide
theorem test_decode_crcInit : decode 0b010100000000 = .ok .crcInit := by decide
theorem test_decode_crcByte : decode 0b011000110001 = .ok (.crcByte 0x31) := by decide
theorem test_decode_txBegin : decode 0b011100000000 = .ok .txBegin := by decide
theorem test_decode_txByte : decode 0b100001111000 = .ok (.txByte 0x78) := by decide
theorem test_decode_txEnd : decode 0b100100000000 = .ok .txEnd := by decide
theorem test_decode_txAbort : decode 0b101000000000 = .ok .txAbort := by decide
theorem test_decode_stop : decode 0b101100000000 = .ok .stop := by decide
theorem test_decode_reset : decode 0b110000000000 = .ok .reset := by decide
/-- V73 to V75. -/
theorem test_decode_reserved :
    decode 0x000 = .error .reservedOpcode ∧ decode 0x0FF = .error .reservedOpcode ∧
    decode 0x201 = .error .nonZeroData ∧ decode 0x480 = .error .nonZeroData ∧
    decode 0xB10 = .error .nonZeroData ∧ decode 0xD00 = .error .reservedOpcode ∧
    decode 0xFFF = .error .reservedOpcode := by decide
/-- 30_encoding.md R71: a word has 12 bits. -/
theorem test_decodeTableWord :
    decodeTableWord 16 0x1FF = some (.rxByte 0xFF) ∧ decodeTableWord 16 0x1200 = none := by decide
/-- 95_test_vectors.md section 7. -/
theorem test_encode : encode (.txByte 0xAB) = 0x8AB := by decide

/-! ### Well-formedness: each check refuses an ill-formed term -/

theorem test_wf_reserved_op : wordWellFormed 0xD00 = false := by decide
theorem test_wf_nonzero_data : wordWellFormed 0x201 = false := by decide
theorem test_wf_baud : Config.inRange { baud := 0 } = false ∧ Config.inRange { baud := 4000001 } = false := by decide
theorem test_wf_dataBits : Config.inRange { baud := 9600, dataBits := 4 } = false ∧
    Config.inRange { baud := 9600, dataBits := 9 } = false := by decide
theorem test_wf_parityBits : Config.inRange { baud := 9600, parityBits := 2 } = false := by decide
theorem test_wf_stopBits : Config.inRange { baud := 9600, stopBits := 0 } = false ∧
    Config.inRange { baud := 9600, stopBits := 3 } = false := by decide
theorem test_wf_tickHz : Config.inRange { baud := 9600, tickHz := 999999 } = false := by decide
/-- 00_scope.md R8: in range, and yet `T35_TICKS` does not fit 32 bits. -/
theorem test_wf_counter : Config.inRange { baud := 1, dataBits := 8, stopBits := 2, tickHz := 200000000 } = true ∧
    configLegal { baud := 1, dataBits := 8, stopBits := 2, tickHz := 200000000 } = false := by decide
theorem test_wf_instr : Instr.wellFormed (.rxByte 0xFF) = true := by decide

/-! ### The Timing Unit -/

/-- V11. -/
theorem test_t_below_floor : t15Ticks { baud := 4800 } = 3438 ∧ t35Ticks { baud := 4800 } = 8021 := by decide
/-- V15: no floor at 19200. -/
theorem test_t_at_19200 : t15Ticks { baud := 19200, dataBits := 5, parityBits := 0 } = 547 ∧
    t35Ticks { baud := 19200, dataBits := 5, parityBits := 0 } = 1277 := by decide
/-- V17 and V20. -/
theorem test_t_above : t15Ticks Config.standard = 750 ∧ t35Ticks Config.standard = 1750 ∧
    t15Ticks { baud := 21999 } = 751 ∧ t35Ticks { baud := 21999 } = 1751 := by decide
/-- The floor is rounded up itself (95_test_vectors.md section 2). -/
theorem test_t_floor_rounds_up : t15Ticks { baud := 115200, tickHz := 1500001 } = 1126 ∧
    t35Ticks { baud := 115200, tickHz := 1500001 } = 2626 := by decide

/-! ### The CRC Engine -/

/-- V30, the catalogued check value, and V26. -/
theorem test_crc16 : crc16 [0x31, 0x32, 0x33, 0x34, 0x35, 0x36, 0x37, 0x38, 0x39] = 0x4B37 ∧
    crc16 [0x20, 0x03, 0x00, 0x00, 0x00, 0x02] = 0xBAC2 := by decide +kernel
/-- V34, V35, V38, V39. -/
theorem test_verify : verify [0x20, 0x03, 0x00, 0x00, 0x00, 0x02, 0xC2, 0xBA] = true ∧
    verify [0x20, 0x03, 0x00, 0x00, 0x00, 0x02, 0xBA, 0xC2] = false ∧ verify [0xFF, 0xFF] = true ∧
    verify [0xFF] = false ∧ verify [] = false := by decide +kernel
/-- 41_crc_engine.md R110, the table form. -/
theorem test_crcTable : crcTable 0x01 = 0xC0C1 ∧ crcTable 0x80 = 0xA001 ∧ crcTable 0xFF = 0x4040 := by decide

/-! ### RX_BYTE -/

/-- 42_rtu_framer.md R130, example. -/
theorem test_rxByte_starts : after (exec (.rxByte 0x20) s0) (fun t => (t.fsm, t.len.val, t.t15, t.t35, t.buf)) =
    some (.receiving, 1, ⟨true, 750⟩, ⟨false, 0⟩, [(0, 0x20)]) := rfl
/-- 20_memory.md R51: the byte after a full buffer is dropped, `OVF` is set and `T15` re-armed (V48). -/
theorem test_rxByte_overflow :
    after (exec (.rxByte 0x55) { receiving 3 with len := 256 }) (fun t => (t.fsm, t.len.val, t.ovf, t.t15, t.buf)) =
    some (.receiving, 256, true, ⟨true, 750⟩, [(0, 0x20)]) := rfl
/-- A byte during the t3.5 wait (P3). -/
theorem test_rxByte_gap : after (exec (.rxByte 0x11) (ready 5)) (fun t => (t.fsm, t.len.val, t.t15, t.t35)) =
    some (.receiving, 1, ⟨true, 750⟩, ⟨false, 0⟩) ∧
    discardCause (.rxByte 0x11) (ready 5) = some .gapByte := by decide

/-! ### TICK -/

/-- 40_timing_unit.md R98, example: `T35` armed in the tick is not decremented in it. -/
theorem test_tick_t15 : after (exec .tick (receiving 1)) (fun t => (t.fsm, t.t15, t.t35, t.out)) =
    some (.frameReady, ⟨false, 0⟩, ⟨true, 1750⟩, Output.none) := by decide
/-- The last tick emits the frame (V54). -/
theorem test_tick_t35 : after (exec .tick (ready 1)) (fun t => (t.fsm, t.len.val, t.t35, t.out.frameOut)) =
    some (.idle, 0, ⟨false, 0⟩, some [0x20, 0x03, 0x58, 0x71]) := by decide +kernel
/-- 40_timing_unit.md R98 corner cases (c) and (e): both armed, `T15` at zero wraps, `T35` counts down. -/
theorem test_tick_wraps :
    after (exec .tick { ready 5 with t15 := ⟨true, 0⟩ }) (fun t => (t.t15, t.t35)) =
    some (⟨true, 0xFFFFFFFF⟩, ⟨true, 4⟩) := by decide

/-! ### The expiries -/

/-- 42_rtu_framer.md R135, example: fires at once whatever the count. -/
theorem test_t15Expire : after (exec .t15Expire (receiving 300)) (fun t => (t.fsm, t.t15, t.t35, t.len.val)) =
    some (.frameReady, ⟨false, 0⟩, ⟨true, 1750⟩, 1) := by decide
/-- V42. -/
theorem test_t35Expire_emits : after (exec .t35Expire (ready 5)) (fun t => (t.fsm, t.len.val, t.t35, t.out.frameOut)) =
    some (.idle, 0, ⟨false, 0⟩, some [0x20, 0x03, 0x58, 0x71]) := by decide +kernel
/-- V44: a short frame that verifies is discarded. -/
theorem test_t35Expire_short :
    after (exec .t35Expire { ready 5 with len := 2, buf := [(0, 0xFF), (1, 0xFF)] })
      (fun t => (t.fsm, t.len.val, t.out.frameOut)) = some (.idle, 0, none) ∧
    discardCause .t35Expire { ready 5 with len := 2, buf := [(0, 0xFF), (1, 0xFF)] } = some .shortFrame := by decide

/-! ### The CRC port -/

/-- 41_crc_engine.md R115, example. -/
theorem test_crcInit : after (exec .crcInit { s0 with crcAcc := 0x1234 }) State.crcAcc = some 0xFFFF := by decide
/-- 41_crc_engine.md R116, example. -/
theorem test_crcByte : after (exec (.crcByte 0x01) s0) State.crcAcc = some 0x807E := by decide

/-! ### Transmit -/

/-- 43_transmit.md R161, example. -/
theorem test_txBegin : after (exec .txBegin { s0 with txCrc := 0x05B0 }) (fun t => (t.txEn, t.txCrc)) =
    some (true, 0xFFFF) := by decide
/-- V60. -/
theorem test_txBegin_ignored : after (exec .txBegin sending) (fun t => (t.txEn, t.txCrc)) =
    some (true, 0x98BE) := by decide
/-- V61. -/
theorem test_txByte : after (exec (.txByte 0x03) sending) (fun t => (t.out.wireOut, t.txCrc)) =
    some ([0x03], 0x7158) := by decide
/-- V55. -/
theorem test_txByte_ignored : after (exec (.txByte 0x11) s0) (fun t => (t.out.wireOut, t.txCrc)) =
    some ([], 0xFFFF) := by decide
/-- 43_transmit.md R163, example. -/
theorem test_txEnd : after (exec .txEnd { sending with txCrc := 0x05B0 }) (fun t => (t.out.wireOut, t.txEn)) =
    some ([0xB0, 0x05], false) := by decide
/-- V62. -/
theorem test_txAbort : after (exec .txAbort sending) (fun t => (t.out.wireOut, t.txEn, t.txCrc)) =
    some ([], false, 0x98BE) := by decide

/-! ### Control -/

/-- V65. -/
theorem test_stop : after (exec .stop { receiving 200 with txEn := true, txCrc := 0x98BE, crcAcc := 0x1234 })
    (fun t => (t.fsm, t.len.val, t.t15, t.run, t.txEn, t.txCrc, t.crcAcc)) =
    some (.idle, 0, ⟨false, 0⟩, false, true, 0x98BE, 0x1234) := rfl
/-- V66. -/
theorem test_reset : after (exec .reset { receiving 200 with txEn := true, txCrc := 0x98BE, crcAcc := 0x1234, run := false })
    (fun t => (t.fsm, t.len.val, t.t15, t.run, t.txEn, t.txCrc, t.crcAcc)) =
    some (.idle, 0, ⟨false, 0⟩, true, false, 0xFFFF, 0xFFFF) := rfl

/-! ### The step, the outputs, the text -/

/-- The word presented to the reset machine is the first command it runs. -/
theorem test_step_first : after (step (State.reset.withFetchWord 16 0x120)) (fun t => (t.fsm, t.len.val, t.stream)) =
    some (.receiving, 1, []) := by decide
/-- 30_encoding.md R74. -/
theorem test_step_reserved : refusal (step (State.reset.withFetchWord 16 0x000)) =
    some (.reservedWord .reservedOpcode) ∧
    refusal (step (State.reset.withFetchWord 16 0x201)) = some (.reservedWord .nonZeroData) ∧
    refusal (step (State.reset.withFetchWord 16 0x1120)) = some (.reservedWord .reservedOpcode) := by decide
/-- 00_scope.md R8. -/
theorem test_step_illegal : refusal (step (State.construct noBaud)) = some .illegalConfig := by decide
/-- 10_state.md R25, R30. -/
theorem test_levels : levels (ready 5) =
    { stateOut := 2, lenOut := 4, crcOut := 0xFFFF, txEn := false, runOut := true } := by decide
/-- 10_state.md R26 and V17. -/
theorem test_constants : (constants Config.standard).charBits = 11 := by decide
/-- 30_encoding.md R75. -/
theorem test_text : readStream "RESET ; RX_BYTE 0x20 -- one byte" = some [.reset, .rxByte 0x20] ∧
    readStream "RX_FRAME_GAP 1 : 01 0x02" = some [.rxByte 0x01, .tick, .rxByte 0x02] ∧
    commandText (.rxByte 0xAB) = "RX_BYTE 0xAB" := by decide

/-! ### Witnesses: the hypotheses of the obligations can be met -/

theorem witness_DecodeInvertsEncode : decode 0x8AB = .ok (.txByte 0xAB) := by decide
theorem witness_ReservedWordsAreRefused :
    let s : State := { s0 with stream := [0xD00, 0x200] }
    configLegal s.cfg = true ∧ s.stream = 0xD00 :: [0x200] ∧ decode 0xD00 = .error .reservedOpcode := by decide
theorem witness_OpcodeMapSelectsWhatDecodes : ⟨"TICK", .N, 0x200, 0xFFF⟩ ∈ opcodeMap := by decide
theorem witness_StepExecutesTheDecodedCommand :
    let s : State := { s0 with stream := [0x120, 0x200] }
    configLegal s.cfg = true ∧ s.stream = 0x120 :: [0x200] ∧ decode 0x120 = .ok (.rxByte 0x20) := by decide
theorem witness_StepWaitsWhenNothingIsPresented : configLegal s0.cfg = true ∧ s0.stream = [] := by decide
theorem witness_IllegalConfigurationIsRefused : configLegal (State.construct noBaud).cfg = false := by decide
theorem witness_StepsFollowTheStream :
    let s : State := { s0 with stream := [0x120, 0x200, 0x300] }
    configLegal s.cfg = true ∧ s.stream = [Instr.rxByte 0x20, .tick].map encode ++ [0x300] := by decide
theorem witness_CommandsKeepConfigurationAndStream : ∃ t, exec .tick (receiving 1) = .next t := ⟨_, rfl⟩
/-- The gaps at both ends of their range, from the reset state and in the middle of a frame. -/
theorem witness_GapPatternsDoNotMatter :
    configLegal s0.cfg = true ∧ s0.Inv ∧ (receiving 3).Inv ∧ (receiving 3).cfg = s0.cfg ∧
    [(749, (0x03 : Byte)), (0, 0x58)].map Prod.snd = [(0, (0x03 : Byte)), (749, 0x58)].map Prod.snd ∧
    (∀ p ∈ [(749, (0x03 : Byte)), (0, 0x58)], p.1 < t15Ticks s0.cfg) ∧
    (∀ q ∈ [(0, (0x03 : Byte)), (749, 0x58)], q.1 < t15Ticks s0.cfg) ∧
    t15Ticks s0.cfg + t35Ticks s0.cfg ≤ 2500 ∧ t15Ticks s0.cfg + t35Ticks s0.cfg ≤ 2501 := by
  refine ⟨by decide, ?_, ?_, by decide, by decide, by decide, by decide, by decide, by decide⟩
  · constructor <;> decide
  · constructor <;> decide
theorem witness_RawDurationsAreRoundedUp :
    Config.inRange { baud := 1, stopBits := 2 } = true ∧
    Config.inRange { baud := 4000000, dataBits := 5, parityBits := 0 } = true := by decide
theorem witness_FloorAppliesStrictlyAbove19200_above : 19200 < ({ baud := 19201 } : Config).baud := by decide
theorem witness_FloorAppliesStrictlyAbove19200_at : ({ baud := 19200 } : Config).baud ≤ 19200 := by decide
theorem witness_DurationsAreOrderedAndMonotone_below :
    let c : Config := { baud := 9600 }
    c.inRange = true ∧ c.baud ≤ 19200 ∧ (19200 ≤ 19200 ∨ 19200 < c.baud) := by decide
theorem witness_DurationsAreOrderedAndMonotone_above :
    let c : Config := { baud := 19201 }
    c.inRange = true ∧ c.baud ≤ 22000 ∧ (22000 ≤ 19200 ∨ 19200 < c.baud) := by decide
theorem witness_DurationsAreOrderedAndMonotone_floor :
    let c : Config := { baud := 22000 }
    c.inRange = true ∧ 2000 * charBits c ≤ c.baud ∧ 19200 < c.baud := by decide
theorem witness_InRangeConfigurationsAreLegal :
    let c : Config := { baud := 1, stopBits := 2, tickHz := 100000000 }
    c.inRange = true ∧ c.tickHz ≤ 100000000 := by decide
theorem witness_TickWithNoTimerArmedChangesNothing : s0.t15.armed = false ∧ s0.t35.armed = false := by decide
theorem witness_TickCountsDown_t15 :
    (receiving 2).t15.armed = true ∧ (receiving 2).t15.count ≠ 1 ∧ (receiving 2).t35.armed = false := by decide
theorem witness_TickCountsDown_t35 :
    (ready 2).t35.armed = true ∧ (ready 2).t35.count ≠ 1 ∧ (ready 2).t15.armed = false := by decide
theorem witness_TickFiresAsTheExpiryCommands_t15 :
    (receiving 1).t15.armed = true ∧ (receiving 1).t15.count = 1 ∧ (receiving 1).t35.armed = false := by decide
theorem witness_TickFiresAsTheExpiryCommands_t35 :
    (ready 1).t35.armed = true ∧ (ready 1).t35.count = 1 ∧ (ready 1).t15.armed = false := by decide
theorem witness_TickServesT15BeforeT35_rearm :
    let s : State := { receiving 1 with t35 := Timer.armedWith 7 }
    configLegal s.cfg = true ∧ s.t15.armed = true ∧ s.t35.armed = true ∧ s.fsm = .receiving ∧ s.t15.count = 1 := by
  decide
theorem witness_TickServesT15BeforeT35_both :
    let s : State := { receiving 2 with t35 := Timer.armedWith 2 }
    s.t15.armed = true ∧ s.t35.armed = true ∧ s.t15.count ≠ 1 ∧ s.t35.count ≠ 1 := by decide
theorem witness_TickServesT15BeforeT35_t35 :
    let s : State := { ready 1 with t15 := Timer.armedWith 2 }
    s.t15.armed = true ∧ s.t35.armed = true ∧ s.t15.count ≠ 1 ∧ s.t35.count = 1 := by decide
theorem witness_TickServesT15BeforeT35_t15 :
    let s : State := { ready 1 with t15 := Timer.armedWith 1 }
    s.t15.armed = true ∧ s.t35.armed = true ∧ s.t15.count = 1 ∧ s.fsm ≠ .receiving := by decide
theorem witness_ArmedT15FiresOnTheNthTick :
    1 ≤ 1 ∧ 1 < 2 ^ 32 ∧ (receiving 1).fsm = .receiving ∧ (receiving 1).t15 = Timer.armedWith 1 ∧
    (receiving 1).t35 = Timer.off := by decide
theorem witness_FrameBoundaryTimeline :
    let s := receiving 750
    configLegal s.cfg = true ∧ s.fsm = .receiving ∧ s.t15 = Timer.armedWith (t15Ticks s.cfg) ∧ s.t35 = Timer.off := by
  decide
/-- The ranges of `g` at their boundaries: 749 is in the first, 750 and 2499 in the second, 2500 in the third. -/
theorem witness_FrameBoundaryTimeline_ranges :
    let c := (receiving 750).cfg
    749 < t15Ticks c ∧ t15Ticks c ≤ 750 ∧ 750 < t15Ticks c + t35Ticks c ∧
    t15Ticks c ≤ 2499 ∧ 2499 < t15Ticks c + t35Ticks c ∧ t15Ticks c + t35Ticks c ≤ 2500 := by decide
theorem witness_ArmedT35FiresOnTheNthTick :
    1 ≤ 1 ∧ 1 < 2 ^ 32 ∧ (ready 1).fsm = .frameReady ∧ (ready 1).t35 = Timer.armedWith 1 ∧
    (ready 1).t15 = Timer.off := by decide
theorem witness_BytesWithSmallGapsMakeOneFrame :
    configLegal s0.cfg = true ∧ s0.run = true ∧ s0.fsm ≠ .receiving ∧
    (∀ p ∈ [(749, (0x03 : Byte)), (0, 0x58), (1, 0x71)], p.1 < t15Ticks s0.cfg) ∧
    t15Ticks s0.cfg + t35Ticks s0.cfg ≤ 2500 := by decide
theorem witness_SilenceEndsTheFrame : (receiving 750).fsm = .receiving ∧ (receiving 750).t15.armed = true := by decide
theorem witness_RxByteStartsAFrame : ∀ x : Fsm, x = .idle ∨ x = .frameReady ∨ x = .error →
    ({ ready 5 with fsm := x } : State).run = true := by
  intro x _
  rfl
theorem witness_RxByteContinuesAFrame :
    (receiving 3).run = true ∧ (receiving 3).fsm = .receiving ∧
    ({ receiving 3 with len := 255 } : State).len.val < 256 ∧
    ({ receiving 3 with len := 256 } : State).len.val = 256 := by decide
theorem witness_RxByteIsIgnoredWhenStopped : ({ s0 with run := false } : State).run = false := by decide
theorem witness_RxByteWritesOneCell : ∃ t, exec (.rxByte 0x11) (receiving 3) = .next t ∧
    rxStoreIndex (receiving 3) = some 1 ∧ rxStoreIndex { receiving 3 with len := 256 } = none ∧
    rxStoreIndex (ready 3) = some 0 ∧ rxStoreIndex { receiving 3 with len := 255 } = some 255 :=
  ⟨_, rfl, by decide, by decide, by decide, by decide⟩
theorem witness_OnlyRxByteWritesTheBuffer : (∀ d, Instr.stop ≠ .rxByte d) ∧ ∃ t, exec .stop (ready 3) = .next t :=
  ⟨by simp, _, rfl⟩
theorem witness_T15ExpireFiresAnArmedTimer :
    ((receiving 3).t15.armed = true ∧ (receiving 3).fsm = .receiving) ∧
    (({ s0 with t15 := Timer.armedWith 3 } : State).t15.armed = true ∧ s0.fsm = .idle) ∧
    (ready 3).t15.armed = false := by decide
theorem witness_T35ExpireFiresAnArmedTimer :
    ((ready 3).t35.armed = true ∧ (ready 3).fsm = .frameReady) ∧
    (({ ready 3 with fsm := .error } : State).t35.armed = true ∧ ({ ready 3 with fsm := .error } : State).fsm = .error) ∧
    (({ receiving 3 with t35 := Timer.armedWith 3 } : State).t35.armed = true ∧ (receiving 3).fsm = .receiving) ∧
    s0.t35.armed = false := by decide
theorem witness_EmittedFramesPassedTheCheck :
    ∃ t, exec .t35Expire (ready 3) = .next t ∧ t.out.frameOut = some [0x20, 0x03, 0x58, 0x71] :=
  ⟨_, rfl, by decide +kernel⟩
theorem witness_FramingErrorsOnlyDiscard :
    configLegal (ready 1).cfg = true ∧ discardCause .tick { ready 1 with ovf := true } = some .overrun ∧
    discardCause .tick { ready 2 with ovf := true } = none ∧
    discardCause (.rxByte 0x11) (ready 3) = some .gapByte ∧
    ((ready 3).t35.armed = true ∧ (ready 3).fsm = .frameReady) := by decide
theorem witness_StateTransitionTable :
    configLegal (receiving 1).cfg = true ∧ (∃ t, exec .tick (receiving 1) = .next t ∧ t.fsm = .frameReady) ∧
    (∃ t, exec .tick (receiving 2) = .next t ∧ t.fsm = .receiving) ∧
    ∃ t, exec .tick { ready 1 with fsm := .error } = .next t ∧ t.fsm = .idle :=
  ⟨by decide, ⟨_, rfl, by decide⟩, ⟨_, rfl, by decide⟩, _, rfl, by decide⟩
theorem witness_DataRegistersHaveOnlyTheirWriters :
    ∃ t, exec (.crcByte 0x01) s0 = .next t ∧ t.crcAcc ≠ s0.crcAcc := ⟨_, rfl, by decide⟩
theorem witness_FlagsHaveOnlyTheirWriters :
    ∃ t, exec (.rxByte 0x01) { receiving 3 with len := 256 } = .next t ∧ (receiving 3).ovf = false ∧ t.ovf = true :=
  ⟨_, rfl, by decide, by decide⟩
theorem witness_CrcResidueIsZero : 2 ≤ ([0xFF, 0xFF] : List Byte).length ∧ crc16 [0xFF, 0xFF] = 0x0000 := by decide +kernel
theorem witness_SingleBitFlipIsDetected :
    verify [0x20, 0x03, 0x58, 0x71] = true ∧ 3 < ([0x20, 0x03, 0x58, 0x71] : List Byte).length ∧ 7 < 8 := by decide +kernel
theorem witness_TransmitCommandsFollowTheEnable : s0.txEn = false ∧ sending.txEn = true := by decide
theorem witness_TransmittedFrameCarriesItsCrc :
    let cs : List Instr := [.rxByte 0x01, .txBegin, .tick, .txByte 0x20, .stop, .txEnd, .crcByte 0x03]
    s0.txEn = false ∧ cs.filter isTransmit = txFrame [0x20] ∧ Instr.reset ∉ cs := by decide
theorem witness_StoppedBlockStaysSilent :
    (∃ t, exec .stop (ready 3) = .next t) ∧ Instr.reset ∉ [Instr.rxByte 0x01, .tick, .t35Expire] :=
  ⟨⟨_, rfl⟩, by decide⟩
theorem witness_ReceiveSideIgnoresTransmitAndPort :
    receiveSide (beginStep (ready 1)) = receiveSide (beginStep { ready 1 with txEn := true, crcAcc := 0 }) ∧
    (∃ t, exec .tick (ready 1) = .next t) ∧ ∃ v, exec .tick { ready 1 with txEn := true, crcAcc := 0 } = .next v :=
  ⟨by decide, ⟨_, rfl⟩, ⟨_, rfl⟩⟩
theorem witness_TransmitSideIgnoresReceiveAndPort :
    transmitSide (beginStep sending) = transmitSide (beginStep { ready 1 with txEn := true, txCrc := 0x98BE }) ∧
    (∃ t, exec .txEnd sending = .next t) ∧
    ∃ v, exec .txEnd { ready 1 with txEn := true, txCrc := 0x98BE } = .next v :=
  ⟨by decide, ⟨_, rfl⟩, ⟨_, rfl⟩⟩
/-- The presented `TICK` that closes a frame, from a state that meets the invariants. -/
theorem witness_StepKeepsTheInvariants :
    ({ receiving 1 with stream := [0x200] } : State).Inv ∧
    after (step { receiving 1 with stream := [0x200] }) State.fsm = some .frameReady := by
  refine ⟨?_, by decide⟩
  constructor <;> decide
theorem witness_StepKeepsTheBufferWritten :
    ({ receiving 1 with stream := [0x155] } : State).BufferInv ∧
    after (step { receiving 1 with stream := [0x155] }) State.buf = some [(0, 0x20), (1, 0x55)] := by
  refine ⟨⟨by decide, ?_⟩, by decide⟩
  decide
theorem witness_Reachable : Reachable Config.standard s0 ∧ s0.quiescent :=
  ⟨⟨by decide, [], [], rfl⟩, rfl, rfl⟩
theorem witness_ErrorIsUnreachable :
    ∃ t, exec .tick { s0 with fsm := .error } = .next t ∧ t.fsm = .error := ⟨_, rfl, by decide⟩
theorem witness_TimedBlockIsAnEventLevelBlock :
    configLegal Config.standard = true ∧
    ∃ t outs, runCommands [.rxByte 0x20, .tick] (State.construct Config.standard) = some (t, outs) :=
  ⟨by decide, _, _, rfl⟩

end Sys2Proof.Tests
end

/-! ## Scope: legal configurations and the step (00_scope.md R3 to R11) -/

namespace Sys2Proof.Machine

/-! ### Legal configurations (00_scope.md R7, R8) -/

/-- The model's rounded-up quotient is Mathlib's, so that its order lemma applies. -/
theorem ceilDiv_eq_ceilDiv (p q : Nat) : ceilDiv p q = p ⌈/⌉ q := rfl

theorem ceilDiv_le_iff {p q n : Nat} (hq : 0 < q) : ceilDiv p q ≤ n ↔ p ≤ q * n := by
  rw [ceilDiv_eq_ceilDiv, ceilDiv_le_iff_le_mul hq]

/-- The ranges of 00_scope.md R7. -/
theorem inRange_iff (c : Config) : c.inRange = true ↔
    1 ≤ c.baud ∧ c.baud ≤ 4000000 ∧ 5 ≤ c.dataBits ∧ c.dataBits ≤ 8 ∧ (c.parityBits = 0 ∨ c.parityBits = 1) ∧
      (c.stopBits = 1 ∨ c.stopBits = 2) ∧ 1000000 ≤ c.tickHz := by
  simp only [Config.inRange, Bool.and_eq_true, decide_eq_true_eq]
  omega

theorem configLegal_iff (c : Config) :
    configLegal c = true ↔ c.inRange = true ∧ t35Ticks c < 2 ^ 32 := by
  simp [configLegal, cntW]

theorem charBits_le_of_inRange {c : Config} (h : c.inRange = true) : charBits c ≤ 12 := by
  have := (inRange_iff c).mp h
  unfold charBits
  omega

/-- The floor of 1750 µs can only raise `T35_TICKS` (40_timing_unit.md R94). -/
theorem t35Ticks_le_max (c : Config) : t35Ticks c ≤ max (t35Raw c) (floor35 c) := by
  unfold t35Ticks
  split
  · exact le_rfl
  · exact le_max_left _ _

/-- The slowest line, 1 baud with 12-bit characters, under the fastest time base: the 4.2e9 of 00_scope.md R8. -/
theorem t35Raw_le_of_inRange {c : Config} (h : c.inRange = true) (hz : c.tickHz ≤ 100000000) :
    t35Raw c ≤ 4200000000 := by
  have hbaud : 1 ≤ c.baud := ((inRange_iff c).mp h).1
  rw [t35Raw, ceilDiv_le_iff (by omega)]
  calc 7 * charBits c * c.tickHz
      ≤ 7 * 12 * 100000000 := by gcongr; exact charBits_le_of_inRange h
    _ ≤ 2 * c.baud * 4200000000 := by omega

theorem floor35_le {c : Config} (hz : c.tickHz ≤ 100000000) : floor35 c ≤ 175000 := by
  rw [floor35, ceilDiv_le_iff (by decide)]
  omega

/-- Settles O16: both durations behind `T35_TICKS` are at most 4.2e9, below `2^32`. -/
theorem inRangeConfigurationsAreLegal : Obligations.InRangeConfigurationsAreLegal := by
  intro c h hz
  have hraw := t35Raw_le_of_inRange h hz
  have hfloor := floor35_le hz
  have hmax := t35Ticks_le_max c
  exact (configLegal_iff c).mpr ⟨h, by omega⟩

/-! ### The step (00_scope.md R3, R11) -/

/-- Settles O6: the fetch yields the head of the stream, and decoding it the command. -/
theorem stepExecutesTheDecodedCommand : Obligations.StepExecutesTheDecodedCommand := by
  intro s w rest i hc hs hw
  simp only [step, fetch_word hc hs, hw]
  rfl

/-- The refusal 00_scope.md R8 asks of a model, whatever is presented (log 9). -/
theorem step_illegal {s : State} (hc : configLegal s.cfg = false) : step s = .refused .illegalConfig := by
  simp [step, fetch_illegal hc]

/-- Settles O8: the ranges and the bound of the legality check, and the refusal that comes before any fetch. -/
theorem illegalConfigurationIsRefused : Obligations.IllegalConfigurationIsRefused := by
  refine ⟨fun c => ?_, fun s => step_illegal⟩
  rw [configLegal_iff, inRange_iff]
  simp only [and_assoc]

/-! ### The next state of each command

One equation per arm of `exec`. A guarded command answers a next state on either side of its guard, so the
outcome is `next` of a choice between two states. -/

section
variable (d : Byte) (s : State)

@[simp] theorem exec_rxByte :
    exec (.rxByte d) s = .next (if s.run then acceptByte d (beginStep s) else beginStep s) :=
  (apply_ite Host.Outcome.next _ _ _).symm

@[simp] theorem exec_tick :
    exec .tick s = .next (tickT35 s.t35.armed (tickT15 s.t15.armed (beginStep s))) := rfl

@[simp] theorem exec_t15Expire :
    exec .t15Expire s = .next (if s.t15.armed then t15Fire (beginStep s) else beginStep s) :=
  (apply_ite Host.Outcome.next _ _ _).symm

@[simp] theorem exec_t35Expire :
    exec .t35Expire s = .next (if s.t35.armed then t35Fire (beginStep s) else beginStep s) :=
  (apply_ite Host.Outcome.next _ _ _).symm

@[simp] theorem exec_crcInit : exec .crcInit s = .next (setCrcAcc crcInit (beginStep s)) := rfl

@[simp] theorem exec_crcByte :
    exec (.crcByte d) s = .next (setCrcAcc (crcStep s.crcAcc d) (beginStep s)) := rfl

@[simp] theorem exec_txBegin :
    exec .txBegin s = .next (if s.txEn then beginStep s else setTxCrc crcInit (setTxEn (beginStep s))) :=
  (apply_ite Host.Outcome.next _ _ _).symm

@[simp] theorem exec_txByte : exec (.txByte d) s =
    .next (if s.txEn then setTxCrc (crcStep s.txCrc d) (wire [d] (beginStep s)) else beginStep s) :=
  (apply_ite Host.Outcome.next _ _ _).symm

@[simp] theorem exec_txEnd : exec .txEnd s =
    .next (if s.txEn then clearTxEn (wire (crcWireBytes s.txCrc) (beginStep s)) else beginStep s) :=
  (apply_ite Host.Outcome.next _ _ _).symm

@[simp] theorem exec_txAbort : exec .txAbort s = .next (clearTxEn (beginStep s)) := rfl

@[simp] theorem exec_stop :
    exec .stop s = .next (toIdle (stopT35 (stopT15 (clearRun (beginStep s))))) := rfl

@[simp] theorem exec_reset : exec .reset s =
    .next (setRun (clearTxEn (setTxCrc crcInit (setCrcAcc crcInit
      (stopT35 (stopT15 (toIdle (beginStep s)))))))) := rfl

end

/-- Settles O10: the equation of each command gives its next state. -/
theorem everyCommandCompletesInEveryState : Obligations.EveryCommandCompletesInEveryState := by
  intro i s
  cases i with
  | rxByte d => exact ⟨_, exec_rxByte d s⟩
  | tick => exact ⟨_, exec_tick s⟩
  | t15Expire => exact ⟨_, exec_t15Expire s⟩
  | t35Expire => exact ⟨_, exec_t35Expire s⟩
  | crcInit => exact ⟨_, exec_crcInit s⟩
  | crcByte d => exact ⟨_, exec_crcByte d s⟩
  | txBegin => exact ⟨_, exec_txBegin s⟩
  | txByte d => exact ⟨_, exec_txByte d s⟩
  | txEnd => exact ⟨_, exec_txEnd s⟩
  | txAbort => exact ⟨_, exec_txAbort s⟩
  | stop => exact ⟨_, exec_stop s⟩
  | reset => exact ⟨_, exec_reset s⟩

/-! ### The constants and the stream (00_scope.md R7, 10_state.md R23)

The record updates keep both by the laws of the state; here are the operations that branch. -/

section
variable (s : State)

theorem t15Fire_keeps_environment : (t15Fire s).cfg = s.cfg ∧ (t15Fire s).stream = s.stream := by
  obtain ⟨_, e⟩ | ⟨_, e⟩ := t15Fire_cases s <;> simp [e]

theorem t35Fire_keeps_environment : (t35Fire s).cfg = s.cfg ∧ (t35Fire s).stream = s.stream := by
  obtain ⟨_, e⟩ | ⟨_, e⟩ | ⟨_, e⟩ := t35Fire_cases s <;> simp [e]

theorem acceptByte_keeps_environment (d : Byte) :
    (acceptByte d s).cfg = s.cfg ∧ (acceptByte d s).stream = s.stream := by
  obtain ⟨_, e⟩ | ⟨_, o, e, _, _⟩ := acceptByte_cases d s
  · simp [e]
  · simp [e, startFrame_eq]

theorem tick_keeps_environment (a b : Bool) :
    (tickT35 b (tickT15 a s)).cfg = s.cfg ∧ (tickT35 b (tickT15 a s)).stream = s.stream := by
  obtain ⟨hcfg, hstream, _⟩ := tickT15_keeps a s
  obtain ⟨hcfg', hstream', _⟩ := tickT35_keeps b (tickT15 a s)
  exact ⟨hcfg'.trans hcfg, hstream'.trans hstream⟩

end

/-- Settles O11: by command; a guarded one keeps both on either side of its guard. -/
theorem commandsKeepConfigurationAndStream : Obligations.CommandsKeepConfigurationAndStream := by
  intro i s t h
  cases i with
  | rxByte d =>
    rw [exec_rxByte] at h
    cases h
    split
    · exact acceptByte_keeps_environment (beginStep s) d
    · simp
  | tick =>
    rw [exec_tick] at h
    cases h
    exact tick_keeps_environment (beginStep s) _ _
  | t15Expire =>
    rw [exec_t15Expire] at h
    cases h
    split
    · exact t15Fire_keeps_environment (beginStep s)
    · simp
  | t35Expire =>
    rw [exec_t35Expire] at h
    cases h
    split
    · exact t35Fire_keeps_environment (beginStep s)
    · simp
  | txBegin | txByte _ | txEnd =>
    simp only [exec_txBegin, exec_txByte, exec_txEnd] at h
    cases h
    split <;> simp
  | crcInit | crcByte _ | txAbort | stop | reset =>
    simp only [exec_crcInit, exec_crcByte, exec_txAbort, exec_stop, exec_reset] at h
    cases h
    simp

end Sys2Proof.Machine

/-! ## State: the invariants, the reset values and the writers (10_state.md R22, R24, R27, R31) -/

namespace Sys2Proof.Machine

/-! ### The two sides of the block (43_transmit.md R166)

A command of one side leaves the other as it is, the outputs of the step aside, which `beginStep` clears. -/

/-- The commands that may write the receive side: those of the serial line, the time base and the control. -/
def isReceive : Instr → Bool
  | .rxByte _ => true
  | .tick => true
  | .t15Expire => true
  | .t35Expire => true
  | .crcInit => false
  | .crcByte _ => false
  | .txBegin => false
  | .txByte _ => false
  | .txEnd => false
  | .txAbort => false
  | .stop => true
  | .reset => true

theorem exec_receiveSide_eq {i : Instr} {s t : State} (hi : isReceive i = false) (h : exec i s = .next t) :
    receiveSide (beginStep t) = receiveSide (beginStep s) := by
  cases i with
  | rxByte _ | tick | t15Expire | t35Expire | stop | reset => cases hi
  | crcInit | crcByte _ | txAbort =>
    cases h
    rfl
  | txBegin | txByte _ | txEnd =>
    simp only [exec_txBegin, exec_txByte, exec_txEnd] at h
    cases h
    split <;> rfl

/-! ### The two loads of a legal configuration (40_timing_unit.md R93, R94) -/

theorem ceilDiv_le_ceilDiv {p p' q : Nat} (hq : 0 < q) (h : p ≤ p') : ceilDiv p q ≤ ceilDiv p' q :=
  (ceilDiv_le_iff hq).mpr (h.trans ((ceilDiv_le_iff hq).mp le_rfl))

theorem ceilDiv_pos {p q : Nat} (hq : 0 < q) (hp : 0 < p) : 0 < ceilDiv p q := by
  by_contra h
  have := (ceilDiv_le_iff hq).mp (Nat.le_of_not_lt h)
  omega

theorem charBits_pos (c : Config) : 0 < charBits c := by
  unfold charBits
  omega

theorem t15Raw_pos {c : Config} (h : c.inRange = true) : 0 < t15Raw c := by
  have hc := (inRange_iff c).mp h
  have hbits := charBits_pos c
  have htick : 0 < c.tickHz := by omega
  exact ceilDiv_pos (by omega) (by positivity)

theorem t15Raw_le_t35Raw {c : Config} (h : c.inRange = true) : t15Raw c ≤ t35Raw c := by
  have hc := (inRange_iff c).mp h
  refine ceilDiv_le_ceilDiv (by omega) ?_
  gcongr
  omega

theorem floor15_le_floor35 (c : Config) : floor15 c ≤ floor35 c :=
  ceilDiv_le_ceilDiv (by decide) (by omega)

theorem t15Ticks_pos {c : Config} (h : c.inRange = true) : 0 < t15Ticks c := by
  have hraw := t15Raw_pos h
  unfold t15Ticks
  split <;> omega

theorem t15Ticks_le_t35Ticks {c : Config} (h : c.inRange = true) : t15Ticks c ≤ t35Ticks c := by
  have hraw := t15Raw_le_t35Raw h
  have hfloor := floor15_le_floor35 c
  unfold t15Ticks t35Ticks
  split <;> omega

/-! ### A running timer (40_timing_unit.md R96) -/

theorem Timer.eq_off_iff (t : Timer) : t = Timer.off ↔ t.armed = false ∧ t.count = 0 := by
  cases t
  simp [Timer.off]

/-- The timer is armed and its count has not run out, from at most `n` ticks. -/
def Timer.Runs (t : Timer) (n : Nat) : Prop := t.armed = true ∧ 1 ≤ t.count.toNat ∧ t.count.toNat ≤ n

theorem armedWith_runs {n : Nat} (hpos : 0 < n) (hfit : n < 2 ^ 32) : (Timer.armedWith n).Runs n := by
  have hcount : (Timer.armedWith n).count.toNat = n := Nat.mod_eq_of_lt hfit
  exact ⟨rfl, by omega, by omega⟩

theorem countDown_runs {t : Timer} {n : Nat} (h : t.Runs n) (hne : t.count - 1#32 ≠ 0#32) :
    t.countDown.Runs n := by
  obtain ⟨harmed, hpos, hle⟩ := h
  refine ⟨harmed, ?_, ?_⟩ <;> rw [countDown_count] <;> bv_omega

theorem t15_load_runs {c : Config} (hc : configLegal c = true) : (Timer.armedWith (t15Ticks c)).Runs (t15Ticks c) := by
  obtain ⟨hrange, hfit⟩ := (configLegal_iff c).mp hc
  exact armedWith_runs (t15Ticks_pos hrange) ((t15Ticks_le_t35Ticks hrange).trans_lt hfit)

theorem t35_load_runs {c : Config} (hc : configLegal c = true) : (Timer.armedWith (t35Ticks c)).Runs (t35Ticks c) := by
  obtain ⟨hrange, hfit⟩ := (configLegal_iff c).mp hc
  exact armedWith_runs ((t15Ticks_pos hrange).trans_le (t15Ticks_le_t35Ticks hrange)) hfit

/-! ### The three phases

A state meets the nine invariants of 10_state.md R27 exactly when it is in one of three phases, one for each
`STATE` but `Error`. That a command keeps the invariants then says which phase it leads to. -/

/-- Nothing is being received. -/
structure State.IdlePhase (s : State) : Prop where
  fsm : s.fsm = .idle
  len : s.len.val = 0
  ovf : s.ovf = false
  t15 : s.t15 = Timer.off
  t35 : s.t35 = Timer.off

/-- The block runs and holds at least one byte, and `OVF` tells a full buffer. -/
structure State.HoldsFrame (s : State) : Prop where
  run : s.run = true
  len : 1 ≤ s.len.val
  ovf : s.ovf = true → s.len.val = bufCap

/-- A frame is being received and `T15` runs. -/
structure State.ReceivingPhase (s : State) : Prop where
  fsm : s.fsm = .receiving
  frame : s.HoldsFrame
  t15 : s.t15.Runs (t15Ticks s.cfg)
  t35 : s.t35 = Timer.off

/-- A candidate frame is complete and `T35` runs. -/
structure State.FrameReadyPhase (s : State) : Prop where
  fsm : s.fsm = .frameReady
  frame : s.HoldsFrame
  t15 : s.t15 = Timer.off
  t35 : s.t35.Runs (t35Ticks s.cfg)

section
variable {s t : State}

theorem State.IdlePhase.inv (h : s.IdlePhase) : s.Inv := by
  obtain ⟨hfsm, hlen, hovf, h15, h35⟩ := h
  constructor <;> simp [hfsm, hlen, hovf, h15, h35]

theorem State.ReceivingPhase.inv (h : s.ReceivingPhase) : s.Inv := by
  obtain ⟨hfsm, ⟨hrun, hlen, hovf⟩, h15, h35⟩ := h
  have hcap : s.len.val ≤ bufCap := Nat.le_of_lt_succ s.len.isLt
  obtain ⟨harmed, hpos, hle⟩ := h15
  constructor
  case overflowFull => exact hovf
  all_goals simp [hfsm, hrun, hlen, hcap, h35, harmed, hpos, hle]

theorem State.FrameReadyPhase.inv (h : s.FrameReadyPhase) : s.Inv := by
  obtain ⟨hfsm, ⟨hrun, hlen, hovf⟩, h15, h35⟩ := h
  have hcap : s.len.val ≤ bufCap := Nat.le_of_lt_succ s.len.isLt
  obtain ⟨harmed, hpos, hle⟩ := h35
  constructor
  case overflowFull => exact hovf
  all_goals simp [hfsm, hrun, hlen, hcap, h15, harmed, hpos, hle]

theorem State.Inv.holdsFrame (h : s.Inv) (hne : s.fsm ≠ .idle) (hlen : 1 ≤ s.len.val) : s.HoldsFrame where
  run := by simpa using mt h.stoppedIdle hne
  len := hlen
  ovf := h.overflowFull

theorem State.HoldsFrame.of_eq (h : s.HoldsFrame) (hrun : t.run = s.run) (hlen : t.len = s.len)
    (hovf : t.ovf = s.ovf) : t.HoldsFrame :=
  ⟨by rw [hrun, h.run], by rw [hlen]; exact h.len, by rw [hlen, hovf]; exact h.ovf⟩

theorem State.Inv.idlePhase (h : s.Inv) (hf : s.fsm = .idle) : s.IdlePhase := by
  obtain ⟨hlen, hovf, h15, h35⟩ := h.idleEmpty hf
  obtain ⟨hzero15, hzero35⟩ := h.disarmedZero
  exact ⟨hf, hlen, hovf, (Timer.eq_off_iff _).mpr ⟨h15, hzero15 h15⟩, (Timer.eq_off_iff _).mpr ⟨h35, hzero35 h35⟩⟩

theorem State.Inv.receivingPhase (h : s.Inv) (hf : s.fsm = .receiving) : s.ReceivingPhase := by
  obtain ⟨hlen, h15, h35, hcount⟩ := h.receivingTimed hf
  obtain ⟨-, hzero35⟩ := h.disarmedZero
  exact ⟨hf, h.holdsFrame (by simp [hf]) hlen, ⟨h15, hcount⟩, (Timer.eq_off_iff _).mpr ⟨h35, hzero35 h35⟩⟩

theorem State.Inv.frameReadyPhase (h : s.Inv) (hf : s.fsm = .frameReady) : s.FrameReadyPhase := by
  obtain ⟨hlen, h15, h35, hcount⟩ := h.frameReadyTimed hf
  obtain ⟨hzero15, -⟩ := h.disarmedZero
  exact ⟨hf, h.holdsFrame (by simp [hf]) hlen, (Timer.eq_off_iff _).mpr ⟨h15, hzero15 h15⟩, ⟨h35, hcount⟩⟩

theorem State.Inv.phases (h : s.Inv) : s.IdlePhase ∨ s.ReceivingPhase ∨ s.FrameReadyPhase := by
  cases hf : s.fsm with
  | idle => exact .inl (h.idlePhase hf)
  | receiving => exact .inr (.inl (h.receivingPhase hf))
  | frameReady => exact .inr (.inr (h.frameReadyPhase hf))
  | error => exact absurd hf h.notError

/-- `T15` runs in `Receiving` only. -/
theorem State.Inv.receivingPhase_of_t15 (h : s.Inv) (ha : s.t15.armed = true) : s.ReceivingPhase := by
  obtain hi | hr | hf := h.phases
  · simp [hi.t15] at ha
  · exact hr
  · simp [hf.t15] at ha

/-- `T35` runs in `FrameReady` only. -/
theorem State.Inv.frameReadyPhase_of_t35 (h : s.Inv) (ha : s.t35.armed = true) : s.FrameReadyPhase := by
  obtain hi | hr | hf := h.phases
  · simp [hi.t35] at ha
  · simp [hr.t35] at ha
  · exact hf

/-- The invariants speak of the receive side only, and not of its output. -/
theorem State.Inv.of_receiveSide_eq (h : s.Inv) (e : receiveSide (beginStep t) = receiveSide (beginStep s)) :
    t.Inv := by
  cases s
  cases t
  simp only [receiveSide, beginStep, ReceiveSide.mk.injEq] at e
  obtain ⟨rfl, -, rfl, rfl, rfl, -, rfl, rfl, rfl⟩ := e
  obtain ⟨hlen, hidle, hreceiving, hready, herror, hboth, hzero, hovf, hrun⟩ := h
  exact ⟨hlen, hidle, hreceiving, hready, herror, hboth, hzero, hovf, hrun⟩
end

/-! ### The operations keep the invariants -/

section
variable {s : State}

theorem beginStep_inv (h : s.Inv) : (beginStep s).Inv := h.of_receiveSide_eq rfl

theorem setStream_inv (ws : List Word) (h : s.Inv) : (setStream ws s).Inv := h.of_receiveSide_eq rfl

/-- A byte is dropped only when the buffer is full, and then it is not empty either. -/
theorem append_len_pos (d : Byte) (s : State) : 1 ≤ (append d s).len.val := by
  obtain ⟨_, e⟩ | ⟨hfull, e⟩ := append_cases d s
  · simp [e]
  · simp [e, hfull, bufCap]

theorem append_holdsFrame (d : Byte) (h : s.HoldsFrame) : (append d s).HoldsFrame where
  run := by simp [h.run]
  len := append_len_pos d s
  ovf := by
    obtain ⟨hroom, e⟩ | ⟨hfull, e⟩ := append_cases d s
    · have hovf : s.ovf = false := by
        simpa using mt h.ovf (Nat.ne_of_lt hroom)
      simp [e, hovf]
    · simp [e, hfull]

/-- A byte that arrives in a running block leads to the receiving phase (42_rtu_framer.md R130 to R134). -/
theorem acceptByte_receivingPhase (d : Byte) (h : s.Inv) (hc : configLegal s.cfg = true) (hrun : s.run = true) :
    (acceptByte d s).ReceivingPhase := by
  obtain ⟨hf, e⟩ | ⟨-, o, e, -, -⟩ := acceptByte_cases d s
  · have hr := h.receivingPhase hf
    rw [e]
    exact ⟨by simp [hf], (append_holdsFrame d hr.frame).of_eq rfl rfl rfl, by simpa using t15_load_runs hc,
      by simp [hr.t35]⟩
  · rw [e, startFrame_eq]
    exact ⟨rfl, ⟨hrun, le_rfl, by simp⟩, t15_load_runs hc, rfl⟩

theorem t15Fire_inv (h : s.Inv) (hc : configLegal s.cfg = true) (ha : s.t15.armed = true) : (t15Fire s).Inv := by
  have hr := h.receivingPhase_of_t15 ha
  obtain ⟨-, e⟩ | ⟨hne, -⟩ := t15Fire_cases s
  · rw [e]
    exact State.FrameReadyPhase.inv ⟨rfl, hr.frame.of_eq rfl rfl rfl, rfl, t35_load_runs hc⟩
  · exact absurd hr.fsm hne

theorem t35Fire_inv (h : s.Inv) (ha : s.t35.armed = true) : (t35Fire s).Inv := by
  have hf := h.frameReadyPhase_of_t35 ha
  obtain ⟨-, e⟩ | ⟨herror, -⟩ | ⟨hother, -⟩ := t35Fire_cases s
  · rw [e]
    exact State.IdlePhase.inv ⟨rfl, rfl, rfl, hf.t15, rfl⟩
  · exact absurd herror h.notError
  · simp [hf.fsm] at hother

/-- An expiry writes its timer, so that the count before it is not seen. -/
theorem t15Fire_countT15 (s : State) : t15Fire (countT15 s) = t15Fire s := rfl

theorem t35Fire_countT35 (s : State) : t35Fire (countT35 s) = t35Fire s := rfl

theorem tickT15_inv (h : s.Inv) (hc : configLegal s.cfg = true) : (tickT15 s.t15.armed s).Inv := by
  obtain ⟨-, e⟩ | ⟨ha, hne, e⟩ | ⟨ha, -, e⟩ := tickT15_cases s.t15.armed s
  · rwa [e]
  · have hr := h.receivingPhase_of_t15 ha
    rw [e]
    exact State.ReceivingPhase.inv
      ⟨hr.fsm, hr.frame.of_eq rfl rfl rfl, countDown_runs hr.t15 hne, hr.t35⟩
  · rw [e, t15Fire_countT15]
    exact t15Fire_inv h hc ha

/-- With either reading of the armed flag: where the flag is down, nothing is done. -/
theorem tickT35_inv (a : Bool) (h : s.Inv) : (tickT35 a s).Inv := by
  have armed_of : (a && s.t35.armed) = true → s.t35.armed = true := fun ha => (Bool.and_eq_true_iff.mp ha).2
  obtain ⟨-, e⟩ | ⟨ha, hne, e⟩ | ⟨ha, -, e⟩ := tickT35_cases a s
  · rwa [e]
  · have hf := h.frameReadyPhase_of_t35 (armed_of ha)
    rw [e]
    exact State.FrameReadyPhase.inv ⟨hf.fsm, hf.frame.of_eq rfl rfl rfl, hf.t15, countDown_runs hf.t35 hne⟩
  · rw [e, t35Fire_countT35]
    exact t35Fire_inv h (armed_of ha)

/-- With both timers stopped, going to `Idle` meets the invariants, as `STOP` does (44_control.md R176). -/
theorem toIdle_inv (h15 : s.t15 = Timer.off) (h35 : s.t35 = Timer.off) : (toIdle s).Inv :=
  State.IdlePhase.inv ⟨rfl, rfl, rfl, h15, h35⟩

end

/-! ### Every command and every step keeps the invariants -/

theorem exec_inv {i : Instr} {s t : State} (h : s.Inv) (hc : configLegal s.cfg = true) (he : exec i s = .next t) :
    t.Inv := by
  have hb := beginStep_inv h
  cases i with
  | rxByte d =>
    rw [exec_rxByte] at he
    cases he
    split
    next hrun => exact (acceptByte_receivingPhase d hb hc hrun).inv
    next => exact hb
  | tick =>
    rw [exec_tick] at he
    cases he
    exact tickT35_inv _ (tickT15_inv hb hc)
  | t15Expire =>
    rw [exec_t15Expire] at he
    cases he
    split
    next ha => exact t15Fire_inv hb hc ha
    next => exact hb
  | t35Expire =>
    rw [exec_t35Expire] at he
    cases he
    split
    next ha => exact t35Fire_inv hb ha
    next => exact hb
  | crcInit | crcByte _ | txBegin | txByte _ | txEnd | txAbort =>
    exact h.of_receiveSide_eq (exec_receiveSide_eq rfl he)
  | stop =>
    rw [exec_stop] at he
    cases he
    exact toIdle_inv rfl rfl
  | reset =>
    rw [exec_reset] at he
    cases he
    exact State.IdlePhase.inv ⟨rfl, rfl, rfl, rfl, rfl⟩

/-- All a step can do when it answers a next state: the constants are legal, and it waits or executes the
command at the head of the stream. -/
theorem step_next_cases {s t : State} (h : step s = .next t) : configLegal s.cfg = true ∧
    ((s.stream = [] ∧ t = beginStep s) ∨
      ∃ w rest i, s.stream = w :: rest ∧ decode w = .ok i ∧ exec i (setStream rest s) = .next t) := by
  cases hc : configLegal s.cfg with
  | false => simp [step_illegal hc] at h
  | true =>
    refine ⟨rfl, ?_⟩
    cases hs : s.stream with
    | nil =>
      simp only [step, fetch_nothing hc hs, Host.Outcome.next.injEq] at h
      exact .inl ⟨rfl, h.symm⟩
    | cons w rest =>
      cases hw : decode w with
      | error why => simp [step, fetch_word hc hs, hw] at h
      | ok i => exact .inr ⟨w, rest, i, rfl, hw, (stepExecutesTheDecodedCommand s w rest i hc hs hw).symm.trans h⟩

/-- Settles O53: a step waits or executes a command, and every command keeps the invariants. -/
theorem stepKeepsTheInvariants : Obligations.StepKeepsTheInvariants := by
  intro s t hinv h
  obtain ⟨hc, ⟨-, rfl⟩ | ⟨w, rest, i, -, -, he⟩⟩ := step_next_cases h
  · exact beginStep_inv hinv
  · exact exec_inv (setStream_inv rest hinv) hc he

/-! ### Construction and `RESET` (10_state.md R31) -/

theorem construct_hasResetValues (c : Config) : (State.construct c).HasResetValues :=
  ⟨rfl, rfl, rfl, ⟨rfl, rfl⟩, ⟨rfl, rfl⟩, rfl, rfl, rfl, rfl⟩

theorem exec_reset_hasResetValues {s t : State} (h : exec .reset s = .next t) : t.HasResetValues := by
  rw [exec_reset] at h
  cases h
  exact ⟨rfl, rfl, rfl, ⟨rfl, rfl⟩, ⟨rfl, rfl⟩, rfl, rfl, rfl, rfl⟩

/-- Settles O1: the reset values at construction and after `RESET`. -/
theorem constructionAndResetGiveTheResetValues : Obligations.ConstructionAndResetGiveTheResetValues :=
  ⟨construct_hasResetValues, fun s => ⟨_, exec_reset s, exec_reset_hasResetValues (exec_reset s)⟩⟩

/-- The reset values are those of the idle phase. -/
theorem State.HasResetValues.idlePhase {s : State} (h : s.HasResetValues) : s.IdlePhase :=
  ⟨h.fsmIdle, h.lenZero, h.ovfClear, (Timer.eq_off_iff _).mpr h.t15Disarmed, (Timer.eq_off_iff _).mpr h.t35Disarmed⟩

/-- No cell is listed at construction, and the frame is empty. -/
theorem construct_bufferInv (c : Config) : (State.construct c).BufferInv :=
  ⟨bufWf_construct c, fun i hi => absurd hi (Nat.not_lt_zero i)⟩

/-- Settles O52: the reset values put a constructed block in the idle phase. -/
theorem constructionMeetsTheInvariants : Obligations.ConstructionMeetsTheInvariants :=
  fun c => ⟨(construct_hasResetValues c).idlePhase.inv, construct_bufferInv c⟩

/-! ### Reachable states (10_state.md R27) -/

/-- What every command keeps, a run keeps. -/
theorem runCommands_keeps {P : State → Prop} (hstep : ∀ i s t, P s → exec i s = .next t → P t) {cs : List Instr}
    {s t : State} {outs : List Output} (hs : P s) (h : runCommands cs s = some (t, outs)) : P t := by
  induction cs generalizing s outs with
  | nil =>
    cases h
    exact hs
  | cons i is ih =>
    obtain ⟨u, outs', he, hr, -⟩ := runCommands_cons_inv h
    exact ih (hstep i s u hs he) hr

/-- Settles O54: legal constants and the invariants together are kept by every command. -/
theorem reachableStatesMeetTheInvariants : Obligations.ReachableStatesMeetTheInvariants := by
  intro c t ⟨hc, cs, outs, hrun⟩
  refine (runCommands_keeps (P := fun s => configLegal s.cfg = true ∧ s.Inv) ?_
    ⟨hc, (constructionMeetsTheInvariants c).1⟩ hrun).2
  intro i s u ⟨hs, hinv⟩ he
  refine ⟨?_, exec_inv hinv hs he⟩
  rwa [(commandsKeepConfigurationAndStream i s u he).1]

/-! ### Who writes the registers and the flags (10_state.md R22, R24) -/

/-- From `s` to `t` only the receive side is written, and `RUN` is kept. -/
structure ReceivesOnly (s t : State) : Prop where
  transmit : transmitSide t = transmitSide s
  crcAcc : t.crcAcc = s.crcAcc
  run : t.run = s.run

section
variable {s t u : State}

theorem ReceivesOnly.refl (s : State) : ReceivesOnly s s := ⟨rfl, rfl, rfl⟩

theorem ReceivesOnly.trans (h : ReceivesOnly s t) (h' : ReceivesOnly t u) : ReceivesOnly s u :=
  ⟨h'.transmit.trans h.transmit, h'.crcAcc.trans h.crcAcc, h'.run.trans h.run⟩

theorem ReceivesOnly.txCrc (h : ReceivesOnly s t) : t.txCrc = s.txCrc := congrArg TransmitSide.txCrc h.transmit

theorem ReceivesOnly.txEn (h : ReceivesOnly s t) : t.txEn = s.txEn := congrArg TransmitSide.txEn h.transmit

theorem acceptByte_receivesOnly (d : Byte) (s : State) : ReceivesOnly s (acceptByte d s) := by
  obtain ⟨-, e⟩ | ⟨-, o, e, hwire, -⟩ := acceptByte_cases d s
  · constructor <;> simp [e, transmitSide]
  · constructor <;> simp [e, startFrame_eq, transmitSide, hwire]

theorem t15Fire_receivesOnly (s : State) : ReceivesOnly s (t15Fire s) := by
  obtain ⟨-, e⟩ | ⟨-, e⟩ := t15Fire_cases s <;> rw [e] <;> exact ⟨rfl, rfl, rfl⟩

theorem t35Fire_receivesOnly (s : State) : ReceivesOnly s (t35Fire s) := by
  obtain ⟨-, e⟩ | ⟨-, e⟩ | ⟨-, e⟩ := t35Fire_cases s <;> rw [e] <;> exact ⟨rfl, rfl, rfl⟩

theorem tickT15_receivesOnly (a : Bool) (s : State) : ReceivesOnly s (tickT15 a s) := by
  obtain ⟨-, -, -, -, -, hout, hcrcAcc, htxCrc, htxEn, hrun⟩ := tickT15_keeps a s
  exact ⟨by simp [transmitSide, hout, htxCrc, htxEn], hcrcAcc, hrun⟩

theorem tickT35_receivesOnly (a : Bool) (s : State) : ReceivesOnly s (tickT35 a s) := by
  obtain ⟨-, -, -, hcrcAcc, htxCrc, htxEn, hrun, hwire, -⟩ := tickT35_keeps a s
  exact ⟨by simp [transmitSide, hwire, htxCrc, htxEn], hcrcAcc, hrun⟩

/-- Reception and the time base leave the transmit side, the CRC port and `RUN` alone. -/
theorem exec_receivesOnly {i : Instr} (h : exec i s = .next t) (hi : isReceive i = true) (hstop : i ≠ .stop)
    (hreset : i ≠ .reset) : ReceivesOnly (beginStep s) t := by
  cases i with
  | rxByte d =>
    rw [exec_rxByte] at h
    cases h
    split
    · exact acceptByte_receivesOnly d (beginStep s)
    · exact .refl _
  | tick =>
    rw [exec_tick] at h
    cases h
    exact (tickT15_receivesOnly _ _).trans (tickT35_receivesOnly _ _)
  | t15Expire =>
    rw [exec_t15Expire] at h
    cases h
    split
    · exact t15Fire_receivesOnly (beginStep s)
    · exact .refl _
  | t35Expire =>
    rw [exec_t35Expire] at h
    cases h
    split
    · exact t35Fire_receivesOnly (beginStep s)
    · exact .refl _
  | stop => exact absurd rfl hstop
  | reset => exact absurd rfl hreset
  | crcInit | crcByte _ | txBegin | txByte _ | txEnd | txAbort => cases hi

end

/-! What the two expiries do to the registers of the receive side. -/

section
variable (s : State)

@[simp] theorem t15Fire_len : (t15Fire s).len = s.len := by
  obtain ⟨-, e⟩ | ⟨-, e⟩ := t15Fire_cases s <;> rw [e]

@[simp] theorem t15Fire_ovf : (t15Fire s).ovf = s.ovf := by
  obtain ⟨-, e⟩ | ⟨-, e⟩ := t15Fire_cases s <;> rw [e]

@[simp] theorem t15Fire_t15 : (t15Fire s).t15 = Timer.off := by
  obtain ⟨-, e⟩ | ⟨-, e⟩ := t15Fire_cases s <;> rw [e]

@[simp] theorem t35Fire_t15 : (t35Fire s).t15 = s.t15 := by
  obtain ⟨-, e⟩ | ⟨-, e⟩ | ⟨-, e⟩ := t35Fire_cases s <;> rw [e]

@[simp] theorem t35Fire_t35 : (t35Fire s).t35 = Timer.off := by
  obtain ⟨-, e⟩ | ⟨-, e⟩ | ⟨-, e⟩ := t35Fire_cases s <;> rw [e]

end

/-- Settles O36: by command, the registers it is not listed for. -/
theorem dataRegistersHaveOnlyTheirWriters : Obligations.DataRegistersHaveOnlyTheirWriters := by
  intro i s t h
  cases i with
  | rxByte _ | tick =>
    have hr := exec_receivesOnly h rfl nofun nofun
    simp [hr.crcAcc, hr.txCrc]
  | t15Expire =>
    have hr := exec_receivesOnly h rfl nofun nofun
    have hlen : t.len = s.len := by
      rw [exec_t15Expire] at h
      cases h
      split <;> simp
    simp [hr.crcAcc, hr.txCrc, hlen]
  | t35Expire =>
    have hr := exec_receivesOnly h rfl nofun nofun
    have h15 : t.t15 = s.t15 := by
      rw [exec_t35Expire] at h
      cases h
      split <;> simp
    simp [hr.crcAcc, hr.txCrc, h15]
  | txBegin | txByte _ | txEnd =>
    simp only [exec_txBegin, exec_txByte, exec_txEnd] at h
    cases h
    split <;> simp
  | crcInit | crcByte _ | txAbort | stop =>
    cases h
    simp
  | reset => simp

/-- A flag goes from `a` to `b`: it is kept, set, for which `S` is required, or cleared, for which `C` is. -/
inductive FlagStep (S C : Prop) (a b : Bool) : Prop
  | kept (hb : b = a)
  | set (hS : S) (hb : b = true)
  | cleared (hC : C) (hb : b = false)

section
variable {S C : Prop} {a b c : Bool}

theorem FlagStep.required_to_set (h : FlagStep S C a b) (ha : a = false) (hb : b = true) : S := by
  cases h with
  | kept he => simp [← he, hb] at ha
  | set hS _ => exact hS
  | cleared _ he => simp [he] at hb

theorem FlagStep.required_to_clear (h : FlagStep S C a b) (ha : a = true) (hb : b = false) : C := by
  cases h with
  | kept he => simp [← he, hb] at ha
  | set _ he => simp [he] at hb
  | cleared hC _ => exact hC

theorem FlagStep.trans (h : FlagStep S C a b) (h' : FlagStep S C b c) : FlagStep S C a c := by
  cases h' with
  | kept he => exact he ▸ h
  | set hS hc => exact .set hS hc
  | cleared hC hc => exact .cleared hC hc

end

/-- The set and cleared columns of 10_state.md R24 for the command `i` from `s` to `t`. -/
structure FlagTable (i : Instr) (s t : State) : Prop where
  run : FlagStep (i = .reset) (i = .stop) s.run t.run
  txEn : FlagStep (i = .txBegin) (i = .txEnd ∨ i = .txAbort ∨ i = .reset) s.txEn t.txEn
  ovf : FlagStep ((∃ d, i = .rxByte d) ∧ s.fsm = .receiving ∧ s.len.val = 256 ∧ s.run = true)
    (((∃ d, i = .rxByte d) ∧ s.fsm ≠ .receiving) ∨ i = .t35Expire ∨ i = .tick ∨ i = .stop ∨ i = .reset) s.ovf t.ovf
  t15 : FlagStep ((∃ d, i = .rxByte d) ∧ s.run = true) (i = .tick ∨ i = .t15Expire ∨ i = .stop ∨ i = .reset)
    s.t15.armed t.t15.armed
  t35 : FlagStep ((i = .tick ∨ i = .t15Expire) ∧ s.fsm = .receiving ∧ s.t15.armed = true)
    (((∃ d, i = .rxByte d) ∧ s.run = true) ∨ i = .tick ∨ i = .t35Expire ∨ i = .stop ∨ i = .reset)
    s.t35.armed t.t35.armed

section
variable {S C : Prop} {s : State}

theorem beginStep_flagTable (i : Instr) (s : State) : FlagTable i s (beginStep s) :=
  ⟨.kept rfl, .kept rfl, .kept rfl, .kept rfl, .kept rfl⟩

/-- The start of the step moves no flag. -/
theorem FlagTable.of_beginStep {i : Instr} {t : State} (h : FlagTable i (beginStep s) t) : FlagTable i s t :=
  ⟨h.run, h.txEn, h.ovf, h.t15, h.t35⟩

theorem acceptByte_flagTable (d : Byte) (hrun : s.run = true) : FlagTable (.rxByte d) s (acceptByte d s) := by
  obtain ⟨hf, e⟩ | ⟨hf, o, e, -, -⟩ := acceptByte_cases d s
  · obtain ⟨_, ea⟩ | ⟨hfull, ea⟩ := append_cases d s
    · rw [e, ea]
      exact ⟨.kept rfl, .kept rfl, .kept rfl, .set ⟨⟨d, rfl⟩, hrun⟩ rfl, .kept rfl⟩
    · rw [e, ea]
      exact ⟨.kept rfl, .kept rfl, .set ⟨⟨d, rfl⟩, hf, hfull, hrun⟩ rfl, .set ⟨⟨d, rfl⟩, hrun⟩ rfl, .kept rfl⟩
  · rw [e, startFrame_eq]
    exact ⟨.kept rfl, .kept rfl, .cleared (.inl ⟨⟨d, rfl⟩, hf⟩) rfl, .set ⟨⟨d, rfl⟩, hrun⟩ rfl,
      .cleared (.inl ⟨⟨d, rfl⟩, hrun⟩) rfl⟩

/-- The expiry of `T15` arms `T35` in `Receiving` only (42_rtu_framer.md R136, R137). -/
theorem t15Fire_t35_armed (hS : s.fsm = .receiving → S) : FlagStep S C s.t35.armed (t15Fire s).t35.armed := by
  obtain ⟨hf, e⟩ | ⟨-, e⟩ := t15Fire_cases s
  · exact .set (hS hf) (by simp [e])
  · exact .kept (by simp [e])

theorem t35Fire_ovf (hC : C) : FlagStep S C s.ovf (t35Fire s).ovf := by
  obtain ⟨-, e⟩ | ⟨-, e⟩ | ⟨-, e⟩ := t35Fire_cases s
  · exact .cleared hC (by simp [e])
  · exact .cleared hC (by simp [e])
  · exact .kept (by simp [e])

theorem tickT15_t15_armed (a : Bool) (hC : C) : FlagStep S C s.t15.armed (tickT15 a s).t15.armed := by
  obtain ⟨-, e⟩ | ⟨-, -, e⟩ | ⟨-, -, e⟩ := tickT15_cases a s
  · exact .kept (by simp [e])
  · exact .kept (by simp [e])
  · exact .cleared hC (by simp [e])

theorem tickT15_t35_armed (a : Bool) (hS : s.fsm = .receiving ∧ a = true → S) :
    FlagStep S C s.t35.armed (tickT15 a s).t35.armed := by
  obtain ⟨-, e⟩ | ⟨-, -, e⟩ | ⟨ha, -, e⟩ := tickT15_cases a s
  · exact .kept (by simp [e])
  · exact .kept (by simp [e])
  · rw [e, t15Fire_countT15]
    exact t15Fire_t35_armed fun hf => hS ⟨hf, ha⟩

theorem tickT35_ovf (a : Bool) (hC : C) : FlagStep S C s.ovf (tickT35 a s).ovf := by
  obtain ⟨-, e⟩ | ⟨-, -, e⟩ | ⟨-, -, e⟩ := tickT35_cases a s
  · exact .kept (by simp [e])
  · exact .kept (by simp [e])
  · rw [e, t35Fire_countT35]
    exact t35Fire_ovf hC

theorem tickT35_t35_armed (a : Bool) (hC : C) : FlagStep S C s.t35.armed (tickT35 a s).t35.armed := by
  obtain ⟨-, e⟩ | ⟨-, -, e⟩ | ⟨-, -, e⟩ := tickT35_cases a s
  · exact .kept (by simp [e])
  · exact .kept (by simp [e])
  · exact .cleared hC (by simp [e])

theorem t15Fire_flagTable (ha : s.t15.armed = true) : FlagTable .t15Expire s (t15Fire s) :=
  have hr := t15Fire_receivesOnly s
  ⟨.kept hr.run, .kept hr.txEn, .kept (t15Fire_ovf s), .cleared (by simp) (by simp),
    t15Fire_t35_armed fun hf => ⟨.inr rfl, hf, ha⟩⟩

theorem t35Fire_flagTable : FlagTable .t35Expire s (t35Fire s) :=
  have hr := t35Fire_receivesOnly s
  ⟨.kept hr.run, .kept hr.txEn, t35Fire_ovf (by simp), .kept (by simp), .cleared (by simp) (by simp)⟩

/-- Each flag over the t1.5 half of the tick, then over the t3.5 half. -/
theorem tick_flagTable (a : Bool) : FlagTable .tick s (tickT35 a (tickT15 s.t15.armed s)) := by
  have hr := (tickT15_receivesOnly s.t15.armed s).trans (tickT35_receivesOnly a _)
  obtain ⟨-, -, -, -, hovf, -⟩ := tickT15_keeps s.t15.armed s
  obtain ⟨-, -, -, -, -, -, -, -, h15⟩ := tickT35_keeps a (tickT15 s.t15.armed s)
  exact ⟨.kept hr.run, .kept hr.txEn,
    .trans (.kept hovf) (tickT35_ovf a (by simp)),
    .trans (tickT15_t15_armed _ (by simp)) (.kept (by rw [h15])),
    .trans (tickT15_t35_armed _ fun hS => ⟨.inl rfl, hS⟩) (tickT35_t35_armed a (by simp))⟩

end

theorem exec_flagTable {i : Instr} {s t : State} (h : exec i s = .next t) : FlagTable i s t := by
  cases i with
  | rxByte d =>
    rw [exec_rxByte] at h
    cases h
    split
    next hrun => exact .of_beginStep (acceptByte_flagTable (s := beginStep s) d hrun)
    next => exact beginStep_flagTable _ s
  | tick =>
    rw [exec_tick] at h
    cases h
    exact FlagTable.of_beginStep (tick_flagTable s.t35.armed)
  | t15Expire =>
    rw [exec_t15Expire] at h
    cases h
    split
    next ha => exact .of_beginStep (t15Fire_flagTable (s := beginStep s) ha)
    next => exact beginStep_flagTable _ s
  | t35Expire =>
    rw [exec_t35Expire] at h
    cases h
    split
    next => exact t35Fire_flagTable.of_beginStep
    next => exact beginStep_flagTable _ s
  | crcInit | crcByte _ =>
    cases h
    exact ⟨.kept rfl, .kept rfl, .kept rfl, .kept rfl, .kept rfl⟩
  | txBegin =>
    rw [exec_txBegin] at h
    cases h
    split
    · exact beginStep_flagTable _ s
    · exact ⟨.kept rfl, .set rfl rfl, .kept rfl, .kept rfl, .kept rfl⟩
  | txByte _ =>
    rw [exec_txByte] at h
    cases h
    split <;> exact ⟨.kept rfl, .kept rfl, .kept rfl, .kept rfl, .kept rfl⟩
  | txEnd =>
    rw [exec_txEnd] at h
    cases h
    split
    · exact ⟨.kept rfl, .cleared (by simp) rfl, .kept rfl, .kept rfl, .kept rfl⟩
    · exact beginStep_flagTable _ s
  | txAbort =>
    cases h
    exact ⟨.kept rfl, .cleared (by simp) rfl, .kept rfl, .kept rfl, .kept rfl⟩
  | stop =>
    cases h
    exact ⟨.cleared rfl rfl, .kept rfl, .cleared (by simp) rfl, .cleared (by simp) rfl, .cleared (by simp) rfl⟩
  | reset =>
    cases h
    exact ⟨.set rfl rfl, .cleared (by simp) rfl, .cleared (by simp) rfl, .cleared (by simp) rfl,
      .cleared (by simp) rfl⟩

/-- Settles O37: the flag table, read in both directions for each flag. -/
theorem flagsHaveOnlyTheirWriters : Obligations.FlagsHaveOnlyTheirWriters := by
  intro i s t h
  obtain ⟨hrun, htxEn, hovf, h15, h35⟩ := exec_flagTable h
  exact ⟨hrun.required_to_set, hrun.required_to_clear, htxEn.required_to_set, htxEn.required_to_clear,
    hovf.required_to_set, hovf.required_to_clear, h15.required_to_set, h15.required_to_clear,
    h35.required_to_set, h35.required_to_clear⟩

end Sys2Proof.Machine

/-! ## Memory: the accumulation buffer (20_memory.md R51, R52, R57) -/

namespace Sys2Proof.Machine

/-! ### What leaves the buffer alone -/

/-- From `s` to `t` no cell is written and the frame in progress does not grow. -/
structure KeepsBuffer (s t : State) : Prop where
  buf : t.buf = s.buf
  len : t.len.val ≤ s.len.val

section
variable {s t u : State}

theorem KeepsBuffer.refl (s : State) : KeepsBuffer s s := ⟨rfl, le_rfl⟩

theorem KeepsBuffer.trans (h : KeepsBuffer s t) (h' : KeepsBuffer t u) : KeepsBuffer s u :=
  ⟨h'.buf.trans h.buf, h'.len.trans h.len⟩

/-- The receive side holds the buffer and `LEN`. -/
theorem KeepsBuffer.of_receiveSide_eq (e : receiveSide (beginStep t) = receiveSide (beginStep s)) :
    KeepsBuffer s t :=
  ⟨congrArg ReceiveSide.buf e, (congrArg (fun r : ReceiveSide => r.len.val) e).le⟩

theorem beginStep_keepsBuffer (s : State) : KeepsBuffer s (beginStep s) := ⟨rfl, le_rfl⟩

theorem setStream_keepsBuffer (ws : List Word) (s : State) : KeepsBuffer s (setStream ws s) := ⟨rfl, le_rfl⟩

theorem clearFrame_keepsBuffer (s : State) : KeepsBuffer s (clearFrame s) := ⟨rfl, Nat.zero_le _⟩

theorem t15Fire_keepsBuffer (s : State) : KeepsBuffer s (t15Fire s) := by
  obtain ⟨-, e⟩ | ⟨-, e⟩ := t15Fire_cases s <;> rw [e] <;> exact ⟨rfl, le_rfl⟩

/-- The frame is read out and then dropped by `LEN <- 0`, its cells staying as they are (log 5). -/
theorem t35Fire_keepsBuffer (s : State) : KeepsBuffer s (t35Fire s) := by
  obtain ⟨-, e⟩ | ⟨-, e⟩ | ⟨-, e⟩ := t35Fire_cases s <;> rw [e]
  · exact ⟨rfl, Nat.zero_le _⟩
  · exact ⟨rfl, Nat.zero_le _⟩
  · exact ⟨rfl, le_rfl⟩

theorem tickT15_keepsBuffer (a : Bool) (s : State) : KeepsBuffer s (tickT15 a s) := by
  obtain ⟨-, -, hbuf, hlen, -⟩ := tickT15_keeps a s
  exact ⟨hbuf, by rw [hlen]⟩

theorem tickT35_keepsBuffer (a : Bool) (s : State) : KeepsBuffer s (tickT35 a s) := by
  obtain ⟨-, e⟩ | ⟨-, -, e⟩ | ⟨-, -, e⟩ := tickT35_cases a s <;> rw [e]
  · exact .refl s
  · exact ⟨rfl, le_rfl⟩
  · rw [t35Fire_countT35]
    exact t35Fire_keepsBuffer s

theorem exec_keepsBuffer {i : Instr} (hi : ∀ d, i ≠ .rxByte d) (h : exec i s = .next t) : KeepsBuffer s t := by
  have hb := beginStep_keepsBuffer s
  cases i with
  | rxByte d => exact absurd rfl (hi d)
  | tick =>
    rw [exec_tick] at h
    cases h
    exact hb.trans ((tickT15_keepsBuffer _ _).trans (tickT35_keepsBuffer _ _))
  | t15Expire =>
    rw [exec_t15Expire] at h
    cases h
    split
    · exact hb.trans (t15Fire_keepsBuffer _)
    · exact hb
  | t35Expire =>
    rw [exec_t35Expire] at h
    cases h
    split
    · exact hb.trans (t35Fire_keepsBuffer _)
    · exact hb
  | crcInit | crcByte _ | txBegin | txByte _ | txEnd | txAbort =>
    exact .of_receiveSide_eq (exec_receiveSide_eq rfl h)
  | stop | reset =>
    cases h
    exact ⟨rfl, Nat.zero_le _⟩

end

/-- Settles O29: a command that leaves the buffer alone leaves each of its cells. -/
theorem onlyRxByteWritesTheBuffer : Obligations.OnlyRxByteWritesTheBuffer := by
  intro i s t hi h a
  rw [(exec_keepsBuffer hi h).buf]

/-! ### The one store (20_memory.md R51)

In every state an accepted byte is appended; the states differ only in the frame it is appended to. -/

/-- The state whose frame an accepted byte is appended to: in `Receiving` the frame in progress, elsewhere the
empty frame of `start_frame` (42_rtu_framer.md R130 to R134). -/
def appendTarget (s : State) : State := if s.fsm = .receiving then s else clearFrame s

section
variable (d : Byte) (s : State)

theorem appendTarget_keepsBuffer : KeepsBuffer s (appendTarget s) := by
  unfold appendTarget
  split
  · exact .refl s
  · exact clearFrame_keepsBuffer s

theorem acceptByte_keepsBuffer_append : KeepsBuffer (append d (appendTarget s)) (acceptByte d s) := by
  obtain ⟨hf, e⟩ | ⟨hf, o, e, -, -⟩ := acceptByte_cases d s
  · rw [e, appendTarget, if_pos hf]
    exact ⟨rfl, le_rfl⟩
  · rw [e, appendTarget, if_neg hf]
    exact ⟨rfl, le_rfl⟩

theorem rxStoreIndex_of_run (hrun : s.run = true) : rxStoreIndex s = appendIndex (appendTarget s) := by
  rw [rxStoreIndex, if_pos hrun, appendTarget, apply_ite appendIndex]

theorem rxStoreIndex_of_stopped (hrun : s.run = false) : rxStoreIndex s = none := by
  simp [rxStoreIndex, hrun]

/-- An append stores its byte at the index it gives, which lies inside the buffer. -/
theorem append_read_same {a : Nat} (h : appendIndex s = some a) :
    bufRead (append d s).buf a = some d ∧ a < bufCap := by
  obtain ⟨hroom, e⟩ | ⟨hfull, -⟩ := append_cases d s
  · have ha : s.len.val = a := by simpa [appendIndex, hroom] using h
    rw [e, ← ha]
    exact ⟨bufRead_bufWrite_same _ _ _, hroom⟩
  · simp [appendIndex, hfull] at h

/-- The store of an accepted byte is that of the append it makes. -/
theorem acceptByte_writes_one_cell (hrun : s.run = true) :
    (∀ a, rxStoreIndex s = some a → bufRead (acceptByte d s).buf a = some d ∧ a < bufCap) ∧
    ∀ a, rxStoreIndex s ≠ some a → bufRead (acceptByte d s).buf a = bufRead s.buf a := by
  rw [(acceptByte_keepsBuffer_append d s).buf, rxStoreIndex_of_run s hrun]
  refine ⟨fun a => append_read_same d _, fun a ha => ?_⟩
  rw [append_read_other d _ a ha, (appendTarget_keepsBuffer s).buf]

end

/-- Settles O28: a running block makes one append, a stopped one stores nowhere. -/
theorem rxByteWritesOneCell : Obligations.RxByteWritesOneCell := by
  intro s t d h
  rw [exec_rxByte] at h
  cases h
  split
  next hrun => exact acceptByte_writes_one_cell d (beginStep s) hrun
  next hstopped => simp [rxStoreIndex_of_stopped s (by simpa using hstopped)]

/-! ### The buffer invariant (10_state.md R28, 20_memory.md R52; log 4) -/

section
variable {s t : State}

theorem KeepsBuffer.bufferInv (h : KeepsBuffer s t) (hinv : s.BufferInv) : t.BufferInv where
  canonical := by rw [h.buf]; exact hinv.canonical
  frameWritten i hi := by rw [h.buf]; exact hinv.frameWritten i (hi.trans_le h.len)

/-- The cell that joins the frame is the one that is written. -/
theorem append_bufferInv (d : Byte) (hinv : s.BufferInv) : (append d s).BufferInv where
  canonical := bufWf_append d hinv.canonical
  frameWritten i hi := by
    obtain ⟨hroom, e⟩ | ⟨-, e⟩ := append_cases d s
    · rw [e] at hi ⊢
      by_cases hnew : i = s.len.val
      · simp [hnew, bufRead_bufWrite_same]
      · have hold : i < s.len.val := Nat.lt_of_le_of_ne (Nat.le_of_lt_succ hi) hnew
        simpa [bufRead_bufWrite_other _ _ hnew] using hinv.frameWritten i hold
    · rw [e] at hi ⊢
      exact hinv.frameWritten i hi

theorem acceptByte_bufferInv (d : Byte) (hinv : s.BufferInv) : (acceptByte d s).BufferInv :=
  (acceptByte_keepsBuffer_append d s).bufferInv
    (append_bufferInv d ((appendTarget_keepsBuffer s).bufferInv hinv))

/-- `RX_BYTE` appends to the buffer or ignores its byte, and no other command writes it. -/
theorem exec_bufferInv {i : Instr} (hinv : s.BufferInv) (h : exec i s = .next t) : t.BufferInv := by
  by_cases hi : ∃ d, i = .rxByte d
  · obtain ⟨d, rfl⟩ := hi
    have hb := (beginStep_keepsBuffer s).bufferInv hinv
    rw [exec_rxByte] at h
    cases h
    split
    · exact acceptByte_bufferInv d hb
    · exact hb
  · exact (exec_keepsBuffer (not_exists.mp hi) h).bufferInv hinv

end

/-- Settles O55: a step waits or executes a command, and every command keeps the buffer invariant. -/
theorem stepKeepsTheBufferWritten : Obligations.StepKeepsTheBufferWritten := by
  intro s t hinv h
  obtain ⟨-, ⟨-, rfl⟩ | ⟨w, rest, i, -, -, he⟩⟩ := step_next_cases h
  · exact (beginStep_keepsBuffer s).bufferInv hinv
  · exact exec_bufferInv ((setStream_keepsBuffer rest s).bufferInv hinv) he

end Sys2Proof.Machine

/-! ## Encoding: command words and the opcode map (30_encoding.md R71 to R75) -/

namespace Sys2Proof.Machine

/-! ### The fields of an encoded command (30_encoding.md R71, R72) -/

@[simp] theorem cmdOp_encode (i : Instr) : cmdOp (encode i) = i.op := cmdOp_cmdWord _ _

@[simp] theorem cmdData_encode (i : Instr) : cmdData (encode i) = i.data := cmdData_cmdWord _ _

theorem encode_eq_of_fields {i : Instr} {w : Word} (hop : i.op = cmdOp w) (hdata : i.data = cmdData w) :
    encode i = w := by
  rw [encode, hop, hdata, cmdWord_fields]

/-! ### The classes of `OP` (30_encoding.md R73, R74) -/

theorem reservedOp_iff (op : BitVec 4) : reservedOp op = true ↔ op = 0x0 ∨ op = 0xD ∨ op = 0xE ∨ op = 0xF := by
  simp [reservedOp, or_assoc]

theorem byteOp_iff (op : BitVec 4) : byteOp op = true ↔ op = 0x1 ∨ op = 0x6 ∨ op = 0x8 := by
  simp [byteOp, or_assoc]

/-- The values of `OP` that are left are those of format `N`. -/
theorem plainOp_iff : ∀ op : BitVec 4, (reservedOp op = false ∧ byteOp op = false) ↔
    op = 0x2 ∨ op = 0x3 ∨ op = 0x4 ∨ op = 0x5 ∨ op = 0x7 ∨ op = 0x9 ∨ op = 0xA ∨ op = 0xB ∨ op = 0xC := by
  decide

theorem reservedOp_of_byteOp : ∀ {op : BitVec 4}, byteOp op = true → reservedOp op = false := by decide

/-- The check of a word, by the class of its `OP`. -/
theorem wordWellFormed_iff (w : Word) : wordWellFormed w = true ↔
    reservedOp (cmdOp w) = false ∧ (byteOp (cmdOp w) = true ∨ cmdData w = 0#8) := by
  simp [wordWellFormed]

/-! ### What decoding can answer (30_encoding.md R73, R74) -/

theorem decodePlain_cases (d : Byte) (i : Instr) :
    (d = 0#8 ∧ decodePlain d i = .ok i) ∨ (d ≠ 0#8 ∧ decodePlain d i = .error .nonZeroData) := by
  unfold decodePlain
  split
  · exact .inl ⟨by assumption, rfl⟩
  · exact .inr ⟨by assumption, rfl⟩

/-- By class of `OP`: a reserved one is no command, one of format `B` takes any `DATA`, and one of format `N`
asks for 0x00. -/
theorem decode_by_class (w : Word) :
    (reservedOp (cmdOp w) = true ∧ decode w = .error .reservedOpcode) ∨
    (byteOp (cmdOp w) = true ∧ ∃ i : Instr, i.op = cmdOp w ∧ i.data = cmdData w ∧ decode w = .ok i) ∨
    ((reservedOp (cmdOp w) = false ∧ byteOp (cmdOp w) = false) ∧
      ∃ i : Instr, i.op = cmdOp w ∧ i.data = 0#8 ∧ decode w = decodePlain (cmdData w) i) := by
  unfold decode
  obtain h | h | h | h | h | h | h | h | h | h | h | h | h | h | h | h := op_cases (cmdOp w) <;> rw [h]
  · exact .inl ⟨rfl, rfl⟩
  · exact .inr (.inl ⟨rfl, .rxByte (cmdData w), rfl, rfl, rfl⟩)
  · exact .inr (.inr ⟨⟨rfl, rfl⟩, .tick, rfl, rfl, rfl⟩)
  · exact .inr (.inr ⟨⟨rfl, rfl⟩, .t15Expire, rfl, rfl, rfl⟩)
  · exact .inr (.inr ⟨⟨rfl, rfl⟩, .t35Expire, rfl, rfl, rfl⟩)
  · exact .inr (.inr ⟨⟨rfl, rfl⟩, .crcInit, rfl, rfl, rfl⟩)
  · exact .inr (.inl ⟨rfl, .crcByte (cmdData w), rfl, rfl, rfl⟩)
  · exact .inr (.inr ⟨⟨rfl, rfl⟩, .txBegin, rfl, rfl, rfl⟩)
  · exact .inr (.inl ⟨rfl, .txByte (cmdData w), rfl, rfl, rfl⟩)
  · exact .inr (.inr ⟨⟨rfl, rfl⟩, .txEnd, rfl, rfl, rfl⟩)
  · exact .inr (.inr ⟨⟨rfl, rfl⟩, .txAbort, rfl, rfl, rfl⟩)
  · exact .inr (.inr ⟨⟨rfl, rfl⟩, .stop, rfl, rfl, rfl⟩)
  · exact .inr (.inr ⟨⟨rfl, rfl⟩, .reset, rfl, rfl, rfl⟩)
  · exact .inl ⟨rfl, rfl⟩
  · exact .inl ⟨rfl, rfl⟩
  · exact .inl ⟨rfl, rfl⟩

/-- A word is the encoding of the command it decodes to, or it is reserved on one of the two grounds. -/
theorem decode_cases (w : Word) :
    (wordWellFormed w = true ∧ ∃ i, encode i = w ∧ decode w = .ok i) ∨
    (reservedOp (cmdOp w) = true ∧ decode w = .error .reservedOpcode) ∨
    ((reservedOp (cmdOp w) = false ∧ byteOp (cmdOp w) = false ∧ cmdData w ≠ 0#8) ∧
      decode w = .error .nonZeroData) := by
  obtain h | ⟨hb, i, hop, hdata, hdec⟩ | ⟨⟨hr, hb⟩, i, hop, hdata, hdec⟩ := decode_by_class w
  · exact .inr (.inl h)
  · exact .inl ⟨(wordWellFormed_iff w).mpr ⟨reservedOp_of_byteOp hb, .inl hb⟩, i, encode_eq_of_fields hop hdata, hdec⟩
  · rw [hdec]
    obtain ⟨hd, e⟩ | ⟨hd, e⟩ := decodePlain_cases (cmdData w) i
    · exact .inl ⟨(wordWellFormed_iff w).mpr ⟨hr, .inr hd⟩, i, encode_eq_of_fields hop (hdata.trans hd.symm), e⟩
    · exact .inr (.inr ⟨⟨hr, hb, hd⟩, e⟩)

theorem decode_encode (i : Instr) : decode (encode i) = .ok i := by
  cases i with
  | rxByte d | crcByte d | txByte d => simp [decode, Instr.op, Instr.data]
  | tick | t15Expire | t35Expire | crcInit | txBegin | txEnd | txAbort | stop | reset =>
    simp [decode, decodePlain, Instr.op, Instr.data]

theorem encode_of_decode {w : Word} {i : Instr} (h : decode w = .ok i) : encode i = w := by
  obtain ⟨-, j, hw, hj⟩ | ⟨-, e⟩ | ⟨-, e⟩ := decode_cases w
  · rwa [← Except.ok.inj (hj.symm.trans h)]
  · cases e.symm.trans h
  · cases e.symm.trans h

section
variable (w : Word)

theorem decode_eq_reservedOpcode_iff : decode w = .error .reservedOpcode ↔ reservedOp (cmdOp w) = true := by
  obtain ⟨hwf, i, -, e⟩ | ⟨hr, e⟩ | ⟨⟨hr, -⟩, e⟩ := decode_cases w
  · simp [e, ((wordWellFormed_iff w).mp hwf).1]
  · simp [e, hr]
  · simp [e, hr]

theorem decode_eq_nonZeroData_iff : decode w = .error .nonZeroData ↔
    reservedOp (cmdOp w) = false ∧ byteOp (cmdOp w) = false ∧ cmdData w ≠ 0#8 := by
  obtain ⟨hwf, i, -, e⟩ | ⟨hr, e⟩ | ⟨h, e⟩ := decode_cases w
  · obtain ⟨-, hb | hd⟩ := (wordWellFormed_iff w).mp hwf
    · simp [e, hb]
    · simp [e, hd]
  · simp [e, hr]
  · simp [e, h]

theorem wordWellFormed_iff_decodes : wordWellFormed w = true ↔ ∃ i, decode w = .ok i := by
  obtain ⟨hwf, i, -, e⟩ | ⟨hr, e⟩ | ⟨⟨-, hb, hd⟩, e⟩ := decode_cases w
  · simp [e, hwf]
  · simp [e, wordWellFormed_iff, hr]
  · simp [e, wordWellFormed_iff, hb, hd]

theorem decode_error_iff : (∃ e, decode w = .error e) ↔ ¬ wordWellFormed w = true := by
  rw [wordWellFormed_iff_decodes]
  cases decode w <;> simp

end

/-! ### The round trip (30_encoding.md R73) -/

/-- Settles O3: the two inverses; the match column by evaluation; the words that are not well formed, by class. -/
theorem decodeInvertsEncode : Obligations.DecodeInvertsEncode := by
  refine ⟨decode_encode, fun _ _ => encode_of_decode, fun d => ⟨rfl, rfl, rfl⟩,
    rfl, rfl, rfl, rfl, rfl, rfl, rfl, rfl, rfl, fun w => ?_⟩
  rw [decode_error_iff, wordWellFormed_iff, ← byteOp_iff, ← plainOp_iff]
  cases hb : byteOp (cmdOp w)
  · simp
  · simp [reservedOp_of_byteOp hb]

/-! ### The reserved words (30_encoding.md R74)

They are counted by `OP`: the numbers below 4096 are sixteen blocks of 256, one for each `OP`. -/

theorem ofNat_eq_cmdWord (k : Nat) {j : Nat} (hj : j < 256) :
    BitVec.ofNat 12 (k * 256 + j) = cmdWord (BitVec.ofNat 4 k) (BitVec.ofNat 8 j) := by
  apply BitVec.eq_of_toNat_eq
  rw [cmdWord, BitVec.toNat_append, BitVec.toNat_ofNat, BitVec.toNat_ofNat, BitVec.toNat_ofNat,
    ← Nat.shiftLeft_add_eq_or_of_lt, Nat.shiftLeft_eq] <;> omega

/-- Counting block by block. -/
theorem count_mul (p : Nat → Prop) [DecidablePred p] (m n : Nat) :
    Nat.count p (m * n) = ∑ k ∈ Finset.range m, Nat.count (fun j => p (k * n + j)) n := by
  induction m with
  | zero => simp
  | succ m ih => rw [Nat.succ_mul, Nat.count_add, ih, Finset.sum_range_succ]

theorem count_nonzero_bytes : Nat.count (fun j => BitVec.ofNat 8 j ≠ 0#8) 256 = 255 := by
  have hsucc : ∀ j < 255, BitVec.ofNat 8 (j + 1) ≠ 0#8 := fun j hj => by bv_omega
  rw [Nat.count_succ', Nat.count_iff_forall.mpr hsucc]
  rfl

/-- How many words with the given `OP` are reserved: each of the 256, none, or each but that with `DATA` 0x00. -/
def reservedWordsOf (op : BitVec 4) : Nat := if reservedOp op then 256 else if byteOp op then 0 else 255

theorem count_reserved_of_op (op : BitVec 4) :
    Nat.count (fun j => ¬ wordWellFormed (cmdWord op (BitVec.ofNat 8 j)) = true) 256 = reservedWordsOf op := by
  simp only [wordWellFormed_iff, cmdOp_cmdWord, cmdData_cmdWord]
  cases hr : reservedOp op
  · cases hb : byteOp op
    · simpa [reservedWordsOf, hr, hb] using count_nonzero_bytes
    · simp [reservedWordsOf, hr, hb]
  · simp [reservedWordsOf, hr]

theorem reserved_words_number :
    ((List.range 4096).filter fun n => !wordWellFormed (BitVec.ofNat 12 n)).length = 3319 :=
  calc ((List.range 4096).filter fun n => !wordWellFormed (BitVec.ofNat 12 n)).length
      = Nat.count (fun n => ¬ wordWellFormed (BitVec.ofNat 12 n) = true) (16 * 256) := by
        simp [Nat.count, List.countP_eq_length_filter]
    _ = ∑ k ∈ Finset.range 16, reservedWordsOf (BitVec.ofNat 4 k) := by
        rw [count_mul]
        refine Finset.sum_congr rfl fun k _ => ?_
        rw [← count_reserved_of_op]
        exact List.countP_congr fun j hj => by simp only [ofNat_eq_cmdWord k (List.mem_range.mp hj)]
    _ = 3319 := rfl

/-- The refusal R74 asks of a model. -/
theorem step_reserved {s : State} {w : Word} {rest : List Word} {why : Invalid} (hc : configLegal s.cfg = true)
    (hs : s.stream = w :: rest) (hw : decode w = .error why) : step s = .refused (.reservedWord why) := by
  simp only [step, fetch_word hc hs, hw]

/-- Settles O4: the two grounds, the number, and the refusal of a step. -/
theorem reservedWordsAreRefused : Obligations.ReservedWordsAreRefused := by
  refine ⟨fun w => ?_, fun w => ?_, reserved_words_number, wordWellFormed_iff_decodes,
    fun s w rest why => step_reserved⟩
  · rw [decode_eq_reservedOpcode_iff, reservedOp_iff]
  · rw [decode_eq_nonZeroData_iff, ← reservedOp_iff, ← byteOp_iff, Bool.not_eq_true, Bool.not_eq_true]
    rfl

/-! ### The opcode map (30_encoding.md R72) -/

theorem cmdWord_and (op op' : BitVec 4) (d d' : Byte) :
    cmdWord op d &&& cmdWord op' d' = cmdWord (op &&& op') (d &&& d') := BitVec.and_append

theorem cmdWord_inj {op op' : BitVec 4} {d d' : Byte} : cmdWord op d = cmdWord op' d' ↔ op = op' ∧ d = d' := by
  refine ⟨fun h => ⟨?_, ?_⟩, fun ⟨hop, hd⟩ => by rw [hop, hd]⟩
  · simpa using congrArg cmdOp h
  · simpa using congrArg cmdData h

/-- The match column gives the `OP`, and the mask demands it, in format `N` with a `DATA` of 0x00. -/
theorem opcodeMap_layout : ∀ r ∈ opcodeMap, reservedOp (cmdOp r.matchBits) = false ∧
    r.matchBits = cmdWord (cmdOp r.matchBits) 0#8 ∧
    r.mask = cmdWord (.allOnes 4) (if byteOp (cmdOp r.matchBits) then 0#8 else .allOnes 8) := by
  decide

theorem opcodeMap_selects_iff {r : OpcodeRow} (hr : r ∈ opcodeMap) (w : Word) :
    r.selects w = true ↔ cmdOp w = cmdOp r.matchBits ∧ wordWellFormed w = true := by
  obtain ⟨hop, hmatch, hmask⟩ := opcodeMap_layout r hr
  have hand : w &&& r.mask =
      cmdWord (cmdOp w) (cmdData w &&& if byteOp (cmdOp r.matchBits) then 0#8 else .allOnes 8) := by
    rw [hmask, ← cmdWord_fields w, cmdWord_and, BitVec.and_allOnes, cmdWord_fields]
  rw [OpcodeRow.selects, beq_iff_eq, hand, hmatch, cmdWord_inj, cmdOp_cmdWord, wordWellFormed_iff]
  refine and_congr_right fun h => ?_
  rw [h, hop]
  cases byteOp (cmdOp r.matchBits)
  · rw [if_neg Bool.false_ne_true, BitVec.and_allOnes]
    simp
  · simp

/-- The mnemonic and the format of a row are those of the commands with its `OP`. -/
theorem opcodeMap_names_iff (i : Instr) : ∀ r ∈ opcodeMap,
    (i.mnemonic = r.mnemonic ∧ i.format = r.format) ↔ i.op = cmdOp r.matchBits := by
  cases i <;> (simp only [Instr.mnemonic, Instr.op, Instr.format]; decide)

theorem opcodeMap_ops_differ : opcodeMap.Pairwise fun r q => cmdOp r.matchBits ≠ cmdOp q.matchBits := by decide

theorem op_of_decode {w : Word} {i : Instr} (h : decode w = .ok i) : i.op = cmdOp w := by
  rw [← encode_of_decode h, cmdOp_encode]

/-- Settles O5: a row selects the well-formed words of its `OP`, and no two rows share one. -/
theorem opcodeMapSelectsWhatDecodes : Obligations.OpcodeMapSelectsWhatDecodes := by
  refine ⟨fun r hr w => ?_, ?_⟩
  · rw [opcodeMap_selects_iff hr, wordWellFormed_iff_decodes, ← exists_and_left]
    refine exists_congr fun i => ?_
    rw [opcodeMap_names_iff i r hr, and_comm]
    exact and_congr_right fun h => by rw [op_of_decode h]
  · refine opcodeMap_ops_differ.imp_of_mem fun hr hq hne w ⟨hsel, hsel'⟩ => hne ?_
    obtain ⟨hop, -⟩ := (opcodeMap_selects_iff hr w).mp hsel
    obtain ⟨hop', -⟩ := (opcodeMap_selects_iff hq w).mp hsel'
    exact hop.symm.trans hop'

/-- Settles O2: by evaluation of the fifteen words. -/
theorem sampleWordsDecode : Obligations.SampleWordsDecode := by
  unfold Obligations.SampleWordsDecode
  decide

/-! ### SILENCE (30_encoding.md R75)

Its two expiries, each in the state it finds. -/

theorem exec_t15Expire_of_receiving {s : State} (h15 : s.t15.armed = true) (hf : s.fsm = .receiving) :
    exec .t15Expire s = .next { s with out := Output.none, fsm := .frameReady, t15 := Timer.off,
                                       t35 := Timer.armedWith (t35Ticks s.cfg) } := by
  rw [exec_t15Expire, if_pos h15]
  obtain ⟨-, e⟩ | ⟨hne, -⟩ := t15Fire_cases (beginStep s)
  · exact congrArg Host.Outcome.next e
  · exact absurd hf hne

theorem exec_t35Expire_of_frameReady {s : State} (h35 : s.t35.armed = true) (hf : s.fsm = .frameReady) :
    exec .t35Expire s = .next { s with
      out := { frameOut := if frameValid (frameBytes s) s.ovf then some (frameBytes s) else none, wireOut := [] },
      fsm := .idle, len := 0, ovf := false, t35 := Timer.off } := by
  rw [exec_t35Expire, if_pos h35]
  obtain ⟨-, e⟩ | ⟨herror, -⟩ | ⟨hother, -⟩ := t35Fire_cases (beginStep s)
  · exact congrArg Host.Outcome.next e
  · cases hf.symm.trans herror
  · obtain h | h := hother <;> cases hf.symm.trans h

/-- Settles O24: the first expiry arms `T35` in `FrameReady`, so the second validates the frame. -/
theorem silenceEndsTheFrame : Obligations.SilenceEndsTheFrame := by
  intro s hf h15
  have hclose := exec_t15Expire_of_receiving h15 hf
  exact ⟨_, runCommands_cons hclose (runCommands_cons (exec_t35Expire_of_frameReady rfl rfl) (runCommands_nil _)), rfl⟩

end Sys2Proof.Machine

/-! ## Timing: the durations, TICK and the event level (40_timing_unit.md R93 to R99) -/

namespace Sys2Proof.Machine

/-! ### The durations (40_timing_unit.md R93 to R95) -/

/-- A quotient is at most another, rounded up, when it is so exactly. -/
theorem ceilDiv_le_ceilDiv_of_mul_le {p q p' q' : Nat} (hq : 0 < q) (hq' : 0 < q') (h : p * q' ≤ p' * q) :
    ceilDiv p q ≤ ceilDiv p' q' := by
  rw [ceilDiv_le_iff hq]
  refine Nat.le_of_mul_le_mul_right ?_ hq'
  calc p * q' ≤ p' * q := h
    _ ≤ q' * ceilDiv p' q' * q := by gcongr; exact (ceilDiv_le_iff hq').mp le_rfl
    _ = q * ceilDiv p' q' * q' := by ring

/-- Quotients that are at least 1 apart stay apart when rounded up. -/
theorem ceilDiv_lt_ceilDiv {p p' q : Nat} (hq : 0 < q) (h : p + q ≤ p') : ceilDiv p q < ceilDiv p' q := by
  rw [Nat.lt_iff_add_one_le, ceilDiv, ← Nat.add_div_right _ hq]
  exact Nat.div_le_div_right (by omega)

/-- The shortest character, 5 data bits without parity and 1 stop bit, has 7 bits on the line. -/
theorem seven_le_charBits {c : Config} (h : c.inRange = true) : 7 ≤ charBits c := by
  have := (inRange_iff c).mp h
  unfold charBits
  omega

/-- The two raw durations differ by two characters, which is at least 3.5 ticks at 4 000 000 baud. -/
theorem t15Raw_lt_t35Raw {c : Config} (h : c.inRange = true) : t15Raw c < t35Raw c := by
  have hc := (inRange_iff c).mp h
  have htwo : 7 * 1000000 ≤ charBits c * c.tickHz := Nat.mul_le_mul (seven_le_charBits h) (by omega)
  refine ceilDiv_lt_ceilDiv (by omega) ?_
  rw [Nat.mul_assoc, Nat.mul_assoc]
  omega

/-- The two floors differ by a millisecond. -/
theorem floor15_lt_floor35 {c : Config} (h : c.inRange = true) : floor15 c < floor35 c := by
  have hc := (inRange_iff c).mp h
  exact ceilDiv_lt_ceilDiv (by decide) (by omega)

section
variable {c : Config}

theorem t15Ticks_above (h : 19200 < c.baud) : t15Ticks c = max (t15Raw c) (floor15 c) := if_pos h

theorem t35Ticks_above (h : 19200 < c.baud) : t35Ticks c = max (t35Raw c) (floor35 c) := if_pos h

theorem t15Ticks_at_or_below (h : c.baud ≤ 19200) : t15Ticks c = t15Raw c := if_neg h.not_gt

theorem t35Ticks_at_or_below (h : c.baud ≤ 19200) : t35Ticks c = t35Raw c := if_neg h.not_gt

theorem t15Ticks_lt_t35Ticks (h : c.inRange = true) : t15Ticks c < t35Ticks c := by
  have hraw := t15Raw_lt_t35Raw h
  obtain hb | hb := Nat.lt_or_ge 19200 c.baud
  · rw [t15Ticks_above hb, t35Ticks_above hb]
    exact max_lt_max hraw (floor15_lt_floor35 h)
  · rwa [t15Ticks_at_or_below hb, t35Ticks_at_or_below hb]

/-- A faster line has shorter characters. -/
theorem raw_antitone {b : Nat} (h : 1 ≤ c.baud) (hb : c.baud ≤ b) :
    t15Raw { c with baud := b } ≤ t15Raw c ∧ t35Raw { c with baud := b } ≤ t35Raw c := by
  constructor <;> exact ceilDiv_le_ceilDiv_of_mul_le (by dsimp only; omega) (by omega)
    (Nat.mul_le_mul_left _ (Nat.mul_le_mul_left 2 hb))

/-- From `2000 * CHAR_BITS` baud on, 1.5 and 3.5 characters last at most 750 µs and 1750 µs. -/
theorem raw_le_floor (hpos : 1 ≤ c.baud) (h : 2000 * charBits c ≤ c.baud) :
    t15Raw c ≤ floor15 c ∧ t35Raw c ≤ floor35 c := by
  have hmul : 2000 * charBits c * c.tickHz ≤ c.baud * c.tickHz := Nat.mul_le_mul_right _ h
  constructor <;> exact ceilDiv_le_ceilDiv_of_mul_le (by omega) (by decide) (by linarith)

end

/-- Settles O13: the order law of the rounded-up quotient. -/
theorem rawDurationsAreRoundedUp : Obligations.RawDurationsAreRoundedUp := by
  intro c h
  have hbaud : 0 < 2 * c.baud := by
    have := (inRange_iff c).mp h
    omega
  refine ⟨fun n => ?_, fun n => ?_, t15Raw_pos h, (t15Raw_pos h).trans_le (t15Raw_le_t35Raw h)⟩
  · rw [t15Raw, ceilDiv_le_iff hbaud, Nat.mul_comm n]
  · rw [t35Raw, ceilDiv_le_iff hbaud, Nat.mul_comm n]

/-- Settles O14: the order law for the floors, and the two sides of 19200 baud. -/
theorem floorAppliesStrictlyAbove19200 : Obligations.FloorAppliesStrictlyAbove19200 := by
  intro c
  refine ⟨fun n => ?_, fun n => ?_, fun h => ⟨t15Ticks_above h, t35Ticks_above h⟩,
    fun h => ⟨t15Ticks_at_or_below h, t35Ticks_at_or_below h⟩, by omega, by omega⟩
  · rw [floor15, ceilDiv_le_iff (by decide), Nat.mul_comm n]
  · rw [floor35, ceilDiv_le_iff (by decide), Nat.mul_comm n]

/-- Settles O15: the floors do not depend on the baud rate, and outlast the characters of a fast line. -/
theorem durationsAreOrderedAndMonotone : Obligations.DurationsAreOrderedAndMonotone := by
  refine ⟨fun c h => ⟨t15Ticks_pos h, t15Ticks_lt_t35Ticks h⟩, fun c b h hb hside => ?_, fun c h hfast habove => ?_⟩
  · obtain ⟨h15, h35⟩ := raw_antitone ((inRange_iff c).mp h).1 hb
    obtain hlow | hhigh := hside
    · rw [t15Ticks_at_or_below hlow, t35Ticks_at_or_below hlow, t15Ticks_at_or_below (hb.trans hlow),
        t35Ticks_at_or_below (hb.trans hlow)]
      exact ⟨h15, h35⟩
    · have hhigh' : 19200 < ({ c with baud := b } : Config).baud := hhigh.trans_le hb
      rw [t15Ticks_above hhigh, t35Ticks_above hhigh, t15Ticks_above hhigh', t35Ticks_above hhigh']
      exact ⟨max_le_max_right _ h15, max_le_max_right _ h35⟩
  · obtain ⟨h15, h35⟩ := raw_le_floor ((inRange_iff c).mp h).1 hfast
    rw [t15Ticks_above habove, t35Ticks_above habove]
    exact ⟨max_eq_right h15, max_eq_right h35⟩

/-! ### The halves of a tick, by the count they find (40_timing_unit.md R98) -/

theorem count_sub_one_eq_zero_iff (n : Count) : n - 1#32 = 0#32 ↔ n = 1#32 := sub_eq_zero

section
variable {s : State}

@[simp] theorem tickT15_false (s : State) : tickT15 false s = s := rfl

@[simp] theorem tickT35_false (s : State) : tickT35 false s = s := rfl

theorem tickT15_counts (ha : s.t15.armed = true) (hne : s.t15.count ≠ 1) :
    tickT15 true s = { s with t15 := { armed := true, count := s.t15.count - 1 } } := by
  obtain ⟨h, -⟩ | ⟨-, -, e⟩ | ⟨-, h, -⟩ := tickT15_cases true s
  · cases h
  · rw [e, ← ha]
    rfl
  · exact absurd ((count_sub_one_eq_zero_iff _).mp h) hne

theorem tickT15_fires (hone : s.t15.count = 1) : tickT15 true s = t15Fire s := by
  obtain ⟨h, -⟩ | ⟨-, h, -⟩ | ⟨-, -, e⟩ := tickT15_cases true s
  · cases h
  · exact absurd ((count_sub_one_eq_zero_iff _).mpr hone) h
  · rw [e, t15Fire_countT15]

theorem tickT35_counts (ha : s.t35.armed = true) (hne : s.t35.count ≠ 1) :
    tickT35 true s = { s with t35 := { armed := true, count := s.t35.count - 1 } } := by
  obtain ⟨h, -⟩ | ⟨-, -, e⟩ | ⟨-, h, -⟩ := tickT35_cases true s
  · cases h.symm.trans ha
  · rw [e, ← ha]
    rfl
  · exact absurd ((count_sub_one_eq_zero_iff _).mp h) hne

theorem tickT35_fires (ha : s.t35.armed = true) (hone : s.t35.count = 1) : tickT35 true s = t35Fire s := by
  obtain ⟨h, -⟩ | ⟨-, h, -⟩ | ⟨-, -, e⟩ := tickT35_cases true s
  · cases h.symm.trans ha
  · exact absurd ((count_sub_one_eq_zero_iff _).mpr hone) h
  · rw [e, t35Fire_countT35]

end

/-! ### One tick (40_timing_unit.md R98, R99) -/

/-- Settles O17: neither half does anything. -/
theorem tickWithNoTimerArmedChangesNothing : Obligations.TickWithNoTimerArmedChangesNothing := by
  intro s h15 h35
  rw [exec_tick, h15, h35]
  rfl

/-- Settles O18: the half of the armed timer counts down, the other does nothing. -/
theorem tickCountsDown : Obligations.TickCountsDown := by
  refine ⟨fun s h15 hne h35 => ?_, fun s h35 hne h15 => ?_, by decide⟩
  · rw [exec_tick, h15, h35, tickT35_false, tickT15_counts (s := beginStep s) h15 hne]
    rfl
  · rw [exec_tick, h15, h35, tickT15_false, tickT35_counts (s := beginStep s) h35 hne]
    rfl

/-- Settles O19: the half of the armed timer fires, the other does nothing. -/
theorem tickFiresAsTheExpiryCommands : Obligations.TickFiresAsTheExpiryCommands := by
  refine ⟨fun s h15 hone h35 => ?_, fun s h35 hone h15 => ?_⟩
  · rw [exec_tick, exec_t15Expire, h15, h35, tickT35_false, tickT15_fires (s := beginStep s) hone, if_pos rfl]
  · rw [exec_tick, exec_t35Expire, h15, h35, tickT15_false, tickT35_fires (s := beginStep s) h35 hone, if_pos rfl]

theorem armedWith_countDown {n : Nat} (h : 1 ≤ n) : (Timer.armedWith n).countDown = Timer.armedWith (n - 1) :=
  congrArg (Timer.mk true) (BitVec.ofNat_sub_ofNat_of_le n 1 (by decide) h)

theorem armedWith_count_ne_one {n : Nat} (h : 2 ≤ n) (hfit : n < 2 ^ 32) : (Timer.armedWith n).count ≠ 1 := by
  rw [armedWith_count]
  bv_omega

/-- Settles O20: the t1.5 half, then the t3.5 half on the state it left. -/
theorem tickServesT15BeforeT35 : Obligations.TickServesT15BeforeT35 := by
  refine ⟨fun s hc h15 h35 hf hone => ?_, fun s h15 h35 hne15 hne35 => ?_, fun s h15 h35 hne hone => ?_,
    fun s h15 h35 hone hf => ?_⟩
  · obtain ⟨hrange, hfit⟩ := (configLegal_iff s.cfg).mp hc
    have hload : 2 ≤ t35Ticks s.cfg := Nat.lt_of_le_of_lt (t15Ticks_pos hrange) (t15Ticks_lt_t35Ticks hrange)
    obtain ⟨-, e⟩ | ⟨hne, -⟩ := t15Fire_cases (beginStep s)
    · rw [exec_tick, h15, h35, tickT15_fires (s := beginStep s) hone, e,
        tickT35_counts rfl (armedWith_count_ne_one hload hfit)]
      exact congrArg (fun x => Host.Outcome.next { s with
        out := Output.none, t15 := Timer.off, fsm := .frameReady, t35 := x })
        (armedWith_countDown (Nat.one_le_of_lt hload))
    · exact absurd hf hne
  · rw [exec_tick, h15, h35, tickT15_counts (s := beginStep s) h15 hne15]
    exact congrArg Host.Outcome.next (tickT35_counts h35 hne35)
  · rw [exec_tick, exec_t35Expire, h15, h35, tickT15_counts (s := beginStep s) h15 hne, if_pos rfl]
    exact congrArg Host.Outcome.next (tickT35_fires h35 hone)
  · obtain ⟨hreceiving, -⟩ | ⟨-, e⟩ := t15Fire_cases (beginStep s)
    · exact absurd hreceiving hf
    · rw [exec_tick, h15, tickT15_fires (s := beginStep s) hone, e]
      rfl

/-! ### Runs of ticks (40_timing_unit.md R98 corner cases (b), (d)) -/

theorem runCommands_append {as bs : List Instr} {s t u : State} {os os' : List Output}
    (h : runCommands as s = some (t, os)) (h' : runCommands bs t = some (u, os')) :
    runCommands (as ++ bs) s = some (u, os ++ os') := by
  induction as generalizing s os with
  | nil =>
    cases h
    exact h'
  | cons i is ih =>
    obtain ⟨v, os₁, he, hr, rfl⟩ := runCommands_cons_inv h
    exact runCommands_cons he (ih hr)

/-- No command reads the outputs of the step before (00_scope.md R10; log 3). -/
theorem exec_beginStep (i : Instr) (s : State) : exec i (beginStep s) = exec i s := by
  cases i <;> rfl

theorem exec_congr_beginStep {s t : State} (h : beginStep s = beginStep t) (i : Instr) : exec i s = exec i t := by
  rw [← exec_beginStep, h, exec_beginStep]

section
variable {f : Nat → State} {s u : State} {k n : Nat}

/-- Where a tick leads from `f m` to `f (m - 1)` until `m` is 1, so do `k` ticks, without an output. -/
theorem runCommands_ticks_count
    (hstep : ∀ m, 2 ≤ m → m < 2 ^ 32 → exec .tick (f m) = .next (beginStep (f (m - 1))))
    (hk : k < n) (hn : n < 2 ^ 32) (hs : beginStep s = beginStep (f n)) :
    ∃ t, runCommands (ticks k) s = some (t, List.replicate k Output.none) ∧
      beginStep t = beginStep (f (n - k)) := by
  induction k generalizing s n with
  | zero => exact ⟨s, rfl, hs⟩
  | succ k ih =>
    have he := (exec_congr_beginStep hs .tick).trans (hstep n (by omega) hn)
    obtain ⟨t, hrun, ht⟩ := ih (s := beginStep (f (n - 1))) (n := n - 1) (by omega) (by omega) rfl
    exact ⟨t, runCommands_cons he hrun, by rwa [Nat.sub_sub, Nat.add_comm 1] at ht⟩

/-- The `n`-th tick is the one that `f 1` takes. -/
theorem runCommands_ticks_last
    (hstep : ∀ m, 2 ≤ m → m < 2 ^ 32 → exec .tick (f m) = .next (beginStep (f (m - 1))))
    (hpos : 1 ≤ n) (hn : n < 2 ^ 32) (hs : beginStep s = beginStep (f n)) (hlast : exec .tick (f 1) = .next u) :
    runCommands (ticks n) s = some (u, List.replicate (n - 1) Output.none ++ [u.out]) := by
  obtain ⟨t, hrun, ht⟩ := runCommands_ticks_count hstep (k := n - 1) (by omega) hn hs
  rw [Nat.sub_sub_self hpos] at ht
  have hfire := runCommands_cons ((exec_congr_beginStep ht .tick).trans hlast) (runCommands_nil u)
  rw [← Nat.sub_add_cancel hpos, ticks_add]
  exact runCommands_append hrun hfire

end

/-- `T15` armed with `n`, everything else as it is. -/
def withT15 (n : Nat) (s : State) : State := { s with t15 := Timer.armedWith n }

/-- `T35` armed with `n`, everything else as it is. -/
def withT35 (n : Nat) (s : State) : State := { s with t35 := Timer.armedWith n }

section
variable {s : State} {n : Nat}

theorem withT15_self (h : s.t15 = Timer.armedWith n) : withT15 n s = s := by rw [withT15, ← h]

theorem withT35_self (h : s.t35 = Timer.armedWith n) : withT35 n s = s := by rw [withT35, ← h]

theorem exec_tick_withT15 (h35 : s.t35 = Timer.off) (m : Nat) (hm : 2 ≤ m) (hfit : m < 2 ^ 32) :
    exec .tick (withT15 m s) = .next (beginStep (withT15 (m - 1) s)) := by
  rw [tickCountsDown.1 (withT15 m s) rfl (armedWith_count_ne_one hm hfit) (congrArg Timer.armed h35), withT15, withT15,
    ← armedWith_countDown (Nat.one_le_of_lt hm)]
  rfl

theorem exec_tick_withT35 (h15 : s.t15 = Timer.off) (m : Nat) (hm : 2 ≤ m) (hfit : m < 2 ^ 32) :
    exec .tick (withT35 m s) = .next (beginStep (withT35 (m - 1) s)) := by
  rw [tickCountsDown.2.1 (withT35 m s) rfl (armedWith_count_ne_one hm hfit) (congrArg Timer.armed h15), withT35,
    withT35, ← armedWith_countDown (Nat.one_le_of_lt hm)]
  rfl

/-- The last tick of `T15` in `Receiving` closes the frame, as `T15_EXPIRE` does. -/
theorem exec_tick_withT15_one (hf : s.fsm = .receiving) (h35 : s.t35 = Timer.off) :
    exec .tick (withT15 1 s) = .next { s with out := Output.none, fsm := .frameReady, t15 := Timer.off,
                                              t35 := Timer.armedWith (t35Ticks s.cfg) } :=
  (tickFiresAsTheExpiryCommands.1 (withT15 1 s) rfl rfl (congrArg Timer.armed h35)).trans
    (exec_t15Expire_of_receiving (s := withT15 1 s) rfl hf)

/-- The last tick of `T35` in `FrameReady` validates the frame, as `T35_EXPIRE` does. -/
theorem exec_tick_withT35_one (hf : s.fsm = .frameReady) (h15 : s.t15 = Timer.off) :
    exec .tick (withT35 1 s) = .next { s with
      out := { frameOut := if frameValid (frameBytes s) s.ovf then some (frameBytes s) else none, wireOut := [] },
      fsm := .idle, len := 0, ovf := false, t35 := Timer.off } :=
  (tickFiresAsTheExpiryCommands.2 (withT35 1 s) rfl rfl (congrArg Timer.armed h15)).trans
    (exec_t35Expire_of_frameReady (s := withT35 1 s) rfl hf)

end

/-- Settles O21: `n - 1` ticks count down to 1, and the next one fires. -/
theorem armedT15FiresOnTheNthTick : Obligations.ArmedT15FiresOnTheNthTick := by
  intro s n hpos hn hf h15 h35
  have hs := congrArg beginStep (withT15_self h15).symm
  have hstep := exec_tick_withT15 h35
  refine ⟨fun k hk => ?_, ?_⟩
  · obtain ⟨t, hrun, ht⟩ := runCommands_ticks_count (f := fun m => withT15 m s) hstep hk hn hs
    exact ⟨t, hrun, (congrArg State.fsm ht).trans hf, congrArg State.t15 ht, (congrArg State.t35 ht).trans h35⟩
  · have hrun := runCommands_ticks_last (f := fun m => withT15 m s) hstep hpos hn hs (exec_tick_withT15_one hf h35)
    rw [← List.replicate_succ', Nat.sub_add_cancel hpos] at hrun
    exact ⟨_, hrun, rfl, rfl, rfl, rfl, rfl, rfl⟩

/-- Settles O59: `n - 1` ticks count down to 1, and the next one fires. -/
theorem armedT35FiresOnTheNthTick : Obligations.ArmedT35FiresOnTheNthTick := by
  intro s n hpos hn hf h35 h15
  have hs := congrArg beginStep (withT35_self h35).symm
  have hstep := exec_tick_withT35 h15
  refine ⟨fun k hk => ?_, ?_⟩
  · obtain ⟨t, hrun, ht⟩ := runCommands_ticks_count (f := fun m => withT35 m s) hstep hk hn hs
    have hbuf := congrArg State.buf ht
    have hlen := congrArg State.len ht
    have hovf := congrArg State.ovf ht
    exact ⟨t, hrun, (congrArg State.fsm ht).trans hf, congrArg State.t35 ht, (congrArg State.t15 ht).trans h15,
      hlen, hovf, fun a _ => congrArg (bufRead · a) hbuf⟩
  · exact ⟨_, runCommands_ticks_last (f := fun m => withT35 m s) hstep hpos hn hs (exec_tick_withT35_one hf h15),
      rfl, rfl, h15, rfl, rfl⟩

/-! ### The event level (40_timing_unit.md R99)

The counts of the timers are read by `TICK` alone: under any other command, states that differ in them, and in the
outputs of the step before, lead to states with the same event-level view. -/

section
variable (d : Byte) (s : State)

@[simp] theorem eventView_fsm : (eventView s).fsm = s.fsm := rfl

theorem eventView_append : eventView (append d (eventView s)) = eventView (append d s) := by
  by_cases hroom : s.len.val < bufCap
  · have hroom' : (eventView s).len.val < bufCap := hroom
    rw [append, dif_pos hroom', append, dif_pos hroom]
    rfl
  · have hfull : ¬ (eventView s).len.val < bufCap := hroom
    rw [append, dif_neg hfull, append, dif_neg hroom]
    rfl

theorem eventView_acceptByte : eventView (acceptByte d (eventView s)) = eventView (acceptByte d s) := by
  unfold acceptByte
  rw [eventView_fsm]
  split
  · rfl
  · have h := congrArg (fun u => eventView (armT15 u)) (eventView_append d s)
    exact h
  · rfl
  · rfl

theorem eventView_t15Fire : eventView (t15Fire (eventView s)) = eventView (t15Fire s) := by
  unfold t15Fire
  rw [eventView_fsm]
  split <;> rfl

theorem eventView_t35Fire : eventView (t35Fire (eventView s)) = eventView (t35Fire s) := by
  unfold t35Fire
  rw [eventView_fsm]
  split
  · rw [emitOrDiscard_eq, emitOrDiscard_eq]
    rfl
  · rfl
  · rfl
  · rfl

end

/-- A guard that does not look at the counts. -/
theorem eventView_ite (b : Bool) {x y u v : State} (hx : eventView x = eventView u) (hy : eventView y = eventView v) :
    eventView (if b then x else y) = eventView (if b then u else v) := by
  cases b
  · exact hy
  · exact hx

theorem exec_eventView {i : Instr} {s t : State} (hi : i ≠ .tick) (h : exec i s = .next t) :
    ∃ v, exec i (eventView s) = .next v ∧ eventView v = eventView t := by
  cases i with
  | tick => exact absurd rfl hi
  | rxByte d =>
    rw [exec_rxByte] at h
    cases h
    exact ⟨_, exec_rxByte d _, eventView_ite s.run (eventView_acceptByte d (beginStep s)) rfl⟩
  | t15Expire =>
    rw [exec_t15Expire] at h
    cases h
    exact ⟨_, exec_t15Expire _, eventView_ite s.t15.armed (eventView_t15Fire (beginStep s)) rfl⟩
  | t35Expire =>
    rw [exec_t35Expire] at h
    cases h
    exact ⟨_, exec_t35Expire _, eventView_ite s.t35.armed (eventView_t35Fire (beginStep s)) rfl⟩
  | txBegin | txByte _ | txEnd =>
    simp only [exec_txBegin, exec_txByte, exec_txEnd] at h ⊢
    cases h
    exact ⟨_, rfl, eventView_ite s.txEn rfl rfl⟩
  | crcInit | crcByte _ | txAbort | stop | reset =>
    cases h
    exact ⟨_, rfl, rfl⟩

/-- A command other than `TICK` goes the same way from states that differ in the counts and the last outputs. -/
theorem exec_congr_eventView {i : Instr} {s u t : State} (hi : i ≠ .tick)
    (hsu : eventView (beginStep u) = eventView (beginStep s)) (h : exec i s = .next t) :
    ∃ w, exec i u = .next w ∧ eventView w = eventView t := by
  obtain ⟨w, hw⟩ := everyCommandCompletesInEveryState i u
  obtain ⟨v, hv, hvt⟩ := exec_eventView hi ((exec_beginStep i s).trans h)
  obtain ⟨v', hv', hvw⟩ := exec_eventView hi ((exec_beginStep i u).trans hw)
  rw [hsu, hv] at hv'
  cases hv'
  exact ⟨w, hw, hvw.symm.trans hvt⟩

/-- All a tick can do when not both timers are armed: count down, which the event level does not see, or act as
one of the two expiry commands. -/
theorem exec_tick_cases {s t : State} (hboth : ¬ (s.t15.armed = true ∧ s.t35.armed = true))
    (h : exec .tick s = .next t) :
    (t.out = Output.none ∧ eventView (beginStep t) = eventView (beginStep s)) ∨
      exec .t15Expire s = .next t ∨ exec .t35Expire s = .next t := by
  cases h15 : s.t15.armed <;> cases h35 : s.t35.armed
  case true.true => exact absurd ⟨h15, h35⟩ hboth
  case false.false =>
    cases (tickWithNoTimerArmedChangesNothing s h15 h35).symm.trans h
    exact .inl ⟨rfl, rfl⟩
  case true.false =>
    by_cases hone : s.t15.count = 1
    · exact .inr (.inl ((tickFiresAsTheExpiryCommands.1 s h15 hone h35).symm.trans h))
    · cases (tickCountsDown.1 s h15 hone h35).symm.trans h
      exact .inl ⟨rfl, by simp [eventView, h15]⟩
  case false.true =>
    by_cases hone : s.t35.count = 1
    · exact .inr (.inr ((tickFiresAsTheExpiryCommands.2 s h35 hone h15).symm.trans h))
    · cases (tickCountsDown.2.1 s h35 hone h15).symm.trans h
      exact .inl ⟨rfl, by simp [eventView, h35]⟩

/-- An event-level run from `u` that accounts for the timed commands `cs` with the outputs `outs` and the final
state `t`. -/
def HasEventLevelRun (u : State) (cs : List Instr) (outs : List Output) (t : State) : Prop :=
  ∃ ds v outs', Instr.tick ∉ ds ∧ ds.filter (fun i => !isTiming i) = cs.filter (fun i => !isTiming i) ∧
    runCommands ds u = some (v, outs') ∧ framesOf outs' = framesOf outs ∧ wireOf outs' = wireOf outs ∧
    eventView (beginStep v) = eventView (beginStep t)

section
variable {s t u : State}

/-- One command `j` accounts for `i` when it does to `s` what `i` does. -/
theorem HasEventLevelRun.of_command {i j : Instr} (hj : j ≠ .tick)
    (hsame : isTiming i = true ∧ isTiming j = true ∨ i = j)
    (hsu : eventView (beginStep u) = eventView (beginStep s)) (h : exec j s = .next t) :
    HasEventLevelRun u [i] [t.out] t := by
  obtain ⟨w, hw, hwt⟩ := exec_congr_eventView hj hsu h
  have hout := congrArg State.out hwt
  refine ⟨[j], w, [w.out], by simpa using hj.symm, ?_, runCommands_cons hw (runCommands_nil w),
    congrArg (fun o => framesOf [o]) hout, congrArg (fun o => wireOf [o]) hout, congrArg beginStep hwt⟩
  obtain ⟨hi, hj⟩ | rfl := hsame
  · simp [hi, hj]
  · rfl

/-- No command accounts for a tick that the event level does not see. -/
theorem HasEventLevelRun.of_silent_tick (h : eventView (beginStep u) = eventView (beginStep t))
    (hout : t.out = Output.none) : HasEventLevelRun u [.tick] [t.out] t :=
  ⟨[], u, [], List.not_mem_nil, rfl, rfl, by rw [hout]; rfl, by rw [hout]; rfl, h⟩

theorem hasEventLevelRun_of_exec {i : Instr} (hinv : s.Inv) (hsu : eventView (beginStep u) = eventView (beginStep s))
    (h : exec i s = .next t) : HasEventLevelRun u [i] [t.out] t := by
  by_cases hi : i = .tick
  · subst hi
    obtain ⟨hout, hview⟩ | h15 | h35 := exec_tick_cases hinv.notBothArmed h
    · exact .of_silent_tick (hsu.trans hview.symm) hout
    · exact .of_command (j := .t15Expire) nofun (.inl ⟨rfl, rfl⟩) hsu h15
    · exact .of_command (j := .t35Expire) nofun (.inl ⟨rfl, rfl⟩) hsu h35
  · exact .of_command hi (.inr rfl) hsu h

theorem HasEventLevelRun.append {cs cs' : List Instr} {outs outs' : List Output} (h : HasEventLevelRun u cs outs s)
    (h' : ∀ v, eventView (beginStep v) = eventView (beginStep s) → HasEventLevelRun v cs' outs' t) :
    HasEventLevelRun u (cs ++ cs') (outs ++ outs') t := by
  obtain ⟨ds, v, os, hds, hfilter, hrun, hframes, hwire, hview⟩ := h
  obtain ⟨ds', w, os', hds', hfilter', hrun', hframes', hwire', hview'⟩ := h' v hview
  exact ⟨ds ++ ds', w, os ++ os', by simp [hds, hds'],
    by rw [List.filter_append, List.filter_append, hfilter, hfilter'],
    runCommands_append hrun hrun', by simp [hframes, hframes'], by simp [hwire, hwire'], hview'⟩

/-- The simulation: the two blocks go on agreeing in their event-level views. -/
theorem runCommands_hasEventLevelRun {cs : List Instr} {outs : List Output} (hc : configLegal s.cfg = true)
    (hinv : s.Inv) (hsu : eventView (beginStep u) = eventView (beginStep s)) (h : runCommands cs s = some (t, outs)) :
    HasEventLevelRun u cs outs t := by
  induction cs generalizing s u outs with
  | nil =>
    cases h
    exact ⟨[], u, [], List.not_mem_nil, rfl, rfl, rfl, rfl, hsu⟩
  | cons i is ih =>
    obtain ⟨v, outs', he, hr, rfl⟩ := runCommands_cons_inv h
    have hcv : configLegal v.cfg = true := by rwa [(commandsKeepConfigurationAndStream i s v he).1]
    exact (hasEventLevelRun_of_exec hinv hsu he).append fun w hw => ih hcv (exec_inv hinv hc he) hw hr

end

/-- Settles O58: the simulation, with both blocks at construction. -/
theorem timedBlockIsAnEventLevelBlock : Obligations.TimedBlockIsAnEventLevelBlock :=
  fun c _ _ _ hc h => runCommands_hasEventLevelRun hc (constructionMeetsTheInvariants c).1 rfl h

end Sys2Proof.Machine

/-! ## CRC engine (41_crc_engine.md R110 to R117) -/

namespace Sys2Proof.Machine

/-! ### `crc_bit` and `crc_step` are linear bijections (41_crc_engine.md R110, R111) -/

theorem crcBit_zero : crcBit 0 = 0 := by decide

theorem crcBit_of_even {c : Crc} (h : c.getLsbD 0 = false) : crcBit c = c >>> 1 := by
  rw [crcBit, h]
  rfl

theorem crcBit_of_odd {c : Crc} (h : c.getLsbD 0 = true) : crcBit c = (c >>> 1) ^^^ crcPoly := by
  rw [crcBit, h]
  rfl

/-- The shift is linear, and the constant is applied to a sum when it is applied to exactly one of the two. -/
theorem crcBit_xor (a b : Crc) : crcBit (a ^^^ b) = crcBit a ^^^ crcBit b := by
  have hbit : (a ^^^ b).getLsbD 0 = (a.getLsbD 0 ^^ b.getLsbD 0) := BitVec.getLsbD_xor
  have hshift : (a ^^^ b) >>> 1 = (a >>> 1) ^^^ (b >>> 1) := BitVec.ushiftRight_xor_distrib ..
  cases ha : a.getLsbD 0 <;> cases hb : b.getLsbD 0 <;> rw [ha, hb] at hbit
  · rw [crcBit_of_even hbit, crcBit_of_even ha, crcBit_of_even hb, hshift]
  · rw [crcBit_of_odd hbit, crcBit_of_even ha, crcBit_of_odd hb, hshift, BitVec.xor_assoc]
  · rw [crcBit_of_odd hbit, crcBit_of_odd ha, crcBit_of_even hb, hshift]
    ac_rfl
  · rw [crcBit_of_even hbit, crcBit_of_odd ha, crcBit_of_odd hb, hshift, BitVec.xor_assoc, BitVec.xor_comm crcPoly,
      BitVec.xor_assoc, BitVec.xor_self, BitVec.xor_zero]

/-- The shift leaves bit 15 clear, and the constant has it set. -/
theorem crcBit_getLsbD_15 (c : Crc) : (crcBit c).getLsbD 15 = c.getLsbD 0 := by
  have hshift : (c >>> 1).getLsbD 15 = false := by simp
  have hpoly : crcPoly.getLsbD 15 = true := by decide
  cases h : c.getLsbD 0
  · rw [crcBit_of_even h, hshift]
  · rw [crcBit_of_odd h, BitVec.getLsbD_xor, hshift, hpoly]
    rfl

theorem crcBit_eq_zero {c : Crc} (h : crcBit c = 0) : c = 0 := by
  have h0 : c.getLsbD 0 = false := by rw [← crcBit_getLsbD_15, h, BitVec.ofNat_eq_ofNat, BitVec.getLsbD_zero]
  rw [crcBit_of_even h0] at h
  refine BitVec.eq_of_getLsbD_eq fun i _ => ?_
  cases i with
  | zero => exact h0
  | succ i => simpa [Nat.add_comm] using congrArg (·.getLsbD i) h

theorem crcBit_injective : Function.Injective crcBit := fun a b h =>
  BitVec.xor_eq_zero_iff.mp (crcBit_eq_zero (by rw [crcBit_xor, h]; exact BitVec.xor_self))

theorem crcBits_of_zero (n : Nat) : crcBits n 0 = 0 := by
  induction n with
  | zero => rfl
  | succ n ih => rw [crcBits_succ, crcBit_zero, ih]

theorem crcBits_xor (n : Nat) (a b : Crc) : crcBits n (a ^^^ b) = crcBits n a ^^^ crcBits n b := by
  induction n generalizing a b with
  | zero => rfl
  | succ n ih => rw [crcBits_succ, crcBit_xor, ih, ← crcBits_succ, ← crcBits_succ]

theorem crcBits_injective (n : Nat) : Function.Injective (crcBits n) := by
  induction n with
  | zero => exact Function.injective_id
  | succ n ih => exact ih.comp crcBit_injective

theorem crcStep_injective (b : Byte) : Function.Injective fun c => crcStep c b :=
  (crcBits_injective 8).comp fun _ _ => (BitVec.xor_left_inj _).mp

/-- Settles O43: `crc_bit` is linear with kernel zero, and `crc_step` is a sum followed by eight of it. -/
theorem crcStepIsABijection : Obligations.CrcStepIsABijection :=
  ⟨Finite.injective_iff_bijective.mp crcBit_injective, crcBit_getLsbD_15,
    fun b => Finite.injective_iff_bijective.mp (crcStep_injective b)⟩

/-! ### The table form (41_crc_engine.md R110) -/

/-- While the bits shifted out are 0, no constant is applied. -/
theorem crcBits_eq_shift {n : Nat} {c : Crc} (h : ∀ i < n, c.getLsbD i = false) : crcBits n c = c >>> n := by
  induction n generalizing c with
  | zero => simp
  | succ n ih =>
    have hlow : ∀ i < n, (c >>> 1).getLsbD i = false := fun i hi => by
      rw [BitVec.getLsbD_ushiftRight, h (1 + i) (by omega)]
    rw [crcBits_succ, crcBit_of_even (h 0 n.succ_pos), ih hlow, ← BitVec.shiftRight_add, Nat.add_comm]

/-- A byte reaches the low half of the register only. -/
theorem xor_zext16_shift (c : Crc) (b : Byte) : (c ^^^ zext16 b) >>> 8 = c >>> 8 := by
  refine BitVec.eq_of_getLsbD_eq fun i _ => ?_
  simp [zext16]

theorem crcTable_eq (v : Byte) : crcTable v = crcBits 8 (zext16 v) :=
  congrArg (crcBits 8) BitVec.zero_xor

/-- Eight steps shift the high byte down unchanged and look the low byte up. -/
theorem crcBits_eight (c : Crc) : crcBits 8 c = (c >>> 8) ^^^ crcTable (crcLow c) := by
  have hlow : ∀ i < 8, (c ^^^ zext16 (crcLow c)).getLsbD i = false := fun i hi => by
    simp [zext16, crcLow, hi, show i < 16 by omega]
  calc crcBits 8 c
      = crcBits 8 (c ^^^ zext16 (crcLow c)) ^^^ crcBits 8 (zext16 (crcLow c)) := by
        rw [← crcBits_xor, BitVec.xor_assoc, BitVec.xor_self, BitVec.xor_zero]
    _ = (c >>> 8) ^^^ crcTable (crcLow c) := by rw [crcBits_eq_shift hlow, xor_zext16_shift, crcTable_eq]

/-- Settles O44: by linearity, the high and the low byte of the register go their own ways. -/
theorem crcTableFormAgrees : Obligations.CrcTableFormAgrees := fun c b => by
  rw [crcStep, crcBits_eight, xor_zext16_shift]

/-! ### The residue and `verify` (41_crc_engine.md R113, R114 item 2) -/

/-- The low byte of the register cancels itself, and the high byte is shifted down. -/
theorem crcStep_crcLow (c : Crc) : crcStep c (crcLow c) = zext16 (crcHigh c) := by
  have hcancel : crcLow (c ^^^ zext16 (crcLow c)) = 0 := by
    refine BitVec.eq_of_getLsbD_eq fun i hi => ?_
    simp [zext16, crcLow, hi, show i < 16 by omega]
  have hdown : c >>> 8 = zext16 (crcHigh c) := by
    refine BitVec.eq_of_getLsbD_eq fun i hi => ?_
    simp only [zext16, crcHigh, BitVec.getLsbD_ushiftRight, BitVec.getLsbD_setWidth, BitVec.getLsbD_extractLsb', hi]
    by_cases h : i < 8
    · simp [h]
    · simp [h, BitVec.getLsbD_of_ge c (8 + i) (by omega)]
  rw [crcTableFormAgrees, hcancel, hdown]
  exact BitVec.xor_zero

theorem crcStep_eq_zero_iff (c : Crc) (b : Byte) : crcStep c b = 0 ↔ c = zext16 b :=
  calc crcStep c b = 0
      ↔ crcBits 8 (c ^^^ zext16 b) = crcBits 8 0 := by rw [crcBits_of_zero, crcStep]
    _ ↔ c ^^^ zext16 b = 0 := (crcBits_injective 8).eq_iff
    _ ↔ c = zext16 b := BitVec.xor_eq_zero_iff

/-- Of all registers, exactly the one that holds the two bytes is taken to zero by them. -/
theorem crcStep_pair_eq_zero_iff (c : Crc) (lo hi : Byte) :
    crcStep (crcStep c lo) hi = 0 ↔ c = joinBytes hi lo := by
  obtain ⟨hhigh, hlow⟩ := (eq_joinBytes_iff (joinBytes hi lo) hi lo).mp rfl
  have hjoin : crcStep (joinBytes hi lo) lo = zext16 hi := by
    have := crcStep_crcLow (joinBytes hi lo)
    rwa [← hhigh, ← hlow] at this
  rw [crcStep_eq_zero_iff, ← hjoin]
  exact (crcStep_injective lo).eq_iff

theorem verify_of_short {f : List Byte} (h : f.length < 2) : verify f = false := if_pos h

theorem verify_append_pair (d : List Byte) (lo hi : Byte) :
    verify (d ++ [lo, hi]) = true ↔ crc16 d = joinBytes hi lo := by
  simp [verify]

theorem exists_append_pair {α : Type} {f : List α} (h : 2 ≤ f.length) : ∃ d a b, f = d ++ [a, b] := by
  obtain ⟨g, b, rfl⟩ := List.eq_nil_or_concat f |>.resolve_left (by rintro rfl; simp at h)
  obtain ⟨d, a, rfl⟩ := List.eq_nil_or_concat g |>.resolve_left (by rintro rfl; simp at h)
  exact ⟨d, a, b, by simp⟩

/-- The check of the framer is the check for a zero residue. -/
theorem verify_iff_residue {f : List Byte} (h : 2 ≤ f.length) : verify f = true ↔ crc16 f = 0 := by
  obtain ⟨d, lo, hi, rfl⟩ := exists_append_pair h
  rw [verify_append_pair, crc16_append]
  exact (crcStep_pair_eq_zero_iff (crc16 d) lo hi).symm

theorem verify_append_crc (d : List Byte) : verify (d ++ crcWireBytes (crc16 d)) = true :=
  (verify_append_pair d _ _).mpr (joinBytes_high_low _).symm

theorem two_le_of_verify {f : List Byte} (h : verify f = true) : 2 ≤ f.length := by
  by_contra hlt
  simp [verify_of_short (Nat.lt_of_not_le hlt)] at h

/-- Settles O40: the trailing two bytes of a frame are the halves of the CRC they join to. -/
theorem verifyHoldsExactlyOfAppendedCrcs : Obligations.VerifyHoldsExactlyOfAppendedCrcs := by
  refine ⟨fun f => ⟨fun h => ?_, ?_⟩, fun f => verify_of_short, fun f hlen => ?_⟩
  · obtain ⟨d, lo, hi, rfl⟩ := exists_append_pair (two_le_of_verify h)
    obtain ⟨rfl, rfl⟩ := (eq_joinBytes_iff _ hi lo).mp ((verify_append_pair d lo hi).mp h)
    exact ⟨d, rfl⟩
  · rintro ⟨d, rfl⟩
    exact verify_append_crc d
  · obtain ⟨lo, hi, rfl⟩ := List.length_eq_two.mp hlen
    have hhalves : crcHigh crcInit = 0xFF ∧ crcLow crcInit = 0xFF := by decide
    rw [← List.nil_append [lo, hi], verify_append_pair, crc16_nil, eq_joinBytes_iff, hhalves.1, hhalves.2]
    simp [and_comm]

/-- Settles O41: `verify` is the check for a zero residue, and it holds of a list followed by its CRC. -/
theorem crcResidueIsZero : Obligations.CrcResidueIsZero :=
  ⟨fun d => (verify_iff_residue (by simp [crcWireBytes])).mp (verify_append_crc d),
    fun _ hlen => (verify_iff_residue hlen).mpr⟩

/-! ### One changed byte (41_crc_engine.md R114 item 3) -/

theorem zext16_injective : Function.Injective zext16 := fun _ _ h =>
  BitVec.eq_of_getLsbD_eq fun i hi => by
    simpa [zext16, hi, show i < 16 by omega] using congrArg (·.getLsbD i) h

theorem crcStep_byte_injective (c : Crc) : Function.Injective (crcStep c) :=
  (crcBits_injective 8).comp (Function.Injective.comp (fun _ _ => (BitVec.xor_right_inj _).mp) zext16_injective)

theorem foldl_crcStep_injective (bs : List Byte) : Function.Injective fun c => bs.foldl crcStep c := by
  induction bs with
  | nil => exact Function.injective_id
  | cons b bs ih => exact ih.comp (crcStep_injective b)

/-- The changed byte puts a difference into the register, and no later byte removes it. -/
theorem crc16_set_eq_set_iff {f : List Byte} {i : Nat} (hi : i < f.length) (a b : Byte) :
    crc16 (f.set i b) = crc16 (f.set i a) ↔ b = a := by
  simp only [List.set_eq_take_append_cons_drop, if_pos hi, crc16_append, List.foldl_cons]
  exact ((foldl_crcStep_injective _).comp (crcStep_byte_injective _)).eq_iff

theorem crc16_set_eq_iff {f : List Byte} {i : Nat} (hi : i < f.length) (b : Byte) :
    crc16 (f.set i b) = crc16 f ↔ b = f[i] := by
  rw [← crc16_set_eq_set_iff hi, List.set_getElem_self]

theorem xor_bit_ne (b : Byte) {j : Nat} (hj : j < 8) : b ^^^ BitVec.ofNat 8 (2 ^ j) ≠ b := by
  have hbit : ∀ j < 8, BitVec.ofNat 8 (2 ^ j) ≠ 0 := by decide
  intro h
  exact hbit j hj ((BitVec.xor_right_inj b).mp (h.trans BitVec.xor_zero.symm))

/-- Settles O42: the two frames have different CRCs, so at most one of them has the residue zero. -/
theorem singleBitFlipIsDetected : Obligations.SingleBitFlipIsDetected := by
  intro f i j hf hi hj
  have hlen : 2 ≤ f.length := two_le_of_verify hf
  have hflip : crc16 (flipBit f i j) ≠ crc16 f := by
    rw [flipBit, List.getD_eq_getElem _ _ hi]
    exact mt (crc16_set_eq_iff hi _).mp (xor_bit_ne _ hj)
  rw [(verify_iff_residue hlen).mp hf] at hflip
  rw [← Bool.not_eq_true, verify_iff_residue (by simpa [flipBit] using hlen)]
  exact hflip

/-! ### The CRC port (41_crc_engine.md R115, R116) -/

theorem beginStep_of_no_output {s : State} (h : s.out = Output.none) : beginStep s = s := by
  rw [beginStep, ← h]

/-- Bytes fed to the port run their fold in `CRCACC`, without an output. -/
theorem runCommands_crcBytes {s : State} (h : s.out = Output.none) (bs : List Byte) :
    runCommands (bs.map .crcByte) s =
      some (setCrcAcc (bs.foldl crcStep s.crcAcc) s, List.replicate bs.length Output.none) := by
  induction bs generalizing s with
  | nil => rfl
  | cons b bs ih =>
    have hstep := exec_crcByte b s
    rw [beginStep_of_no_output h] at hstep
    have hrun := runCommands_cons hstep (ih (s := setCrcAcc (crcStep s.crcAcc b) s) h)
    rwa [setCrcAcc_out, h] at hrun

/-- After a command that answers without an output and with the initial value in `CRCACC`, the bytes leave
their `crc16` there. -/
theorem runCommands_cons_crcBytes {i : Instr} {s t : State} (he : exec i s = .next t) (hout : t.out = Output.none)
    (hacc : t.crcAcc = crcInit) (bs : List Byte) :
    runCommands (i :: bs.map .crcByte) s =
      some (setCrcAcc (crc16 bs) t, List.replicate (bs.length + 1) Output.none) := by
  have hrun := runCommands_cons he (runCommands_crcBytes hout bs)
  rwa [hacc, hout] at hrun

theorem runCommands_crc16Commands (s : State) (bs : List Byte) : runCommands (crc16Commands bs) s =
    some (setCrcAcc (crc16 bs) (beginStep s), List.replicate (bs.length + 1) Output.none) :=
  runCommands_cons_crcBytes (exec_crcInit s) rfl rfl bs

/-- Settles O38: both commands by their equations, and the fold of the bytes from the initial value. -/
theorem crcPortCommandsWriteCrcAcc : Obligations.CrcPortCommandsWriteCrcAcc :=
  ⟨exec_crcInit, fun s d => exec_crcByte d s,
    fun s bs => ⟨_, _, runCommands_crc16Commands s bs, rfl⟩,
    fun _ bs => ⟨_, _, runCommands_crcBytes rfl bs, rfl⟩,
    fun s bs => ⟨_, _, runCommands_cons_crcBytes (exec_reset s) rfl rfl bs, rfl⟩⟩

/-- Settles O39: the run has no output in any step. -/
theorem crcPortComputesCrc16 : Obligations.CrcPortComputesCrc16 := fun s bs =>
  ⟨_, runCommands_crc16Commands s bs, by simp [framesOf], by simp [wireOf]⟩

/-! ### The transmit side on its own (41_crc_engine.md R117) -/

/-- A command that is neither of the transmit family nor `RESET` leaves the transmit side as it is. -/
theorem exec_transmitSide_eq {i : Instr} {s t : State} (h : exec i s = .next t) (hi : isTransmit i = false)
    (hreset : i ≠ .reset) : transmitSide t = transmitSide (beginStep s) := by
  cases i with
  | rxByte _ | tick | t15Expire | t35Expire => exact (exec_receivesOnly h rfl nofun nofun).transmit
  | crcInit | crcByte _ | stop =>
    cases h
    rfl
  | txBegin | txByte _ | txEnd | txAbort => cases hi
  | reset => exact absurd rfl hreset

/-- Settles O51: a transmit command reads `TXCRC` and `TXEN` only, and of the others only `RESET` writes them. -/
theorem transmitSideIgnoresReceiveAndPort : Obligations.TransmitSideIgnoresReceiveAndPort := by
  intro i s u t v hsu ht hv
  have hcrc : s.txCrc = u.txCrc := congrArg TransmitSide.txCrc hsu
  have hen : s.txEn = u.txEn := congrArg TransmitSide.txEn hsu
  cases i with
  | rxByte _ | tick | t15Expire | t35Expire | crcInit | crcByte _ | stop =>
    rw [exec_transmitSide_eq ht rfl nofun, exec_transmitSide_eq hv rfl nofun, hsu]
  | txBegin | txByte _ | txEnd =>
    simp only [exec_txBegin, exec_txByte, exec_txEnd, hcrc, hen] at ht hv
    cases ht
    cases hv
    split <;> simp [transmitSide, wire, hcrc, hen]
  | txAbort =>
    cases ht
    cases hv
    simp [transmitSide, hcrc]
  | reset =>
    cases ht
    cases hv
    rfl

end Sys2Proof.Machine

/-! ## RTU framer: reception, the expiries and the frame boundary (42_rtu_framer.md R130 to R149) -/

namespace Sys2Proof.Machine

/-! ### `RX_BYTE` (42_rtu_framer.md R130 to R134) -/

section
variable {s : State} (d : Byte)

theorem exec_rxByte_of_stopped (hrun : s.run = false) : exec (.rxByte d) s = .next (beginStep s) := by
  simp [hrun]

theorem exec_rxByte_of_run (hrun : s.run = true) : exec (.rxByte d) s = .next (acceptByte d (beginStep s)) := by
  simp [hrun]

theorem acceptByte_of_receiving (hf : s.fsm = .receiving) : acceptByte d s = armT15 (append d s) := by
  obtain ⟨-, e⟩ | ⟨hne, -⟩ := acceptByte_cases d s
  · exact e
  · exact absurd hf hne

/-- A step begins without a frame to emit, so that the discard in `FrameReady` changes nothing. -/
theorem acceptByte_of_ne_receiving (hf : s.fsm ≠ .receiving) :
    acceptByte d (beginStep s) = startFrame d (beginStep s) := by
  obtain ⟨hr, -⟩ | ⟨-, o, e, -, ho⟩ := acceptByte_cases d (beginStep s)
  · exact absurd hr hf
  · rw [e, ho rfl]

end

/-- Settles O25: an accepted byte outside `Receiving` is a `start_frame`, which writes cell 0. -/
theorem rxByteStartsAFrame : Obligations.RxByteStartsAFrame := by
  intro s d hrun hf
  have hne : s.fsm ≠ .receiving := by
    obtain h | h | h := hf <;> simp [h]
  refine ⟨⟨startFrame d (beginStep s), ?_, bufRead_bufWrite_same s.buf 0 d, rfl⟩, fun hready => ?_⟩
  · rw [exec_rxByte_of_run d hrun, acceptByte_of_ne_receiving d hne]
  · simp [discardCause, hrun, hready]

/-- Settles O26: an accepted byte in `Receiving` is an append, which stores the byte or sets `OVF`. -/
theorem rxByteContinuesAFrame : Obligations.RxByteContinuesAFrame := by
  intro s d hrun hf
  rw [exec_rxByte_of_run d hrun, acceptByte_of_receiving d (s := beginStep s) hf]
  obtain ⟨hroom, e⟩ | ⟨hfull, e⟩ := append_cases d (beginStep s)
  · rw [e]
    exact ⟨fun _ => rfl, fun h => absurd h (Nat.ne_of_lt hroom)⟩
  · rw [e]
    exact ⟨fun h => absurd hfull (Nat.ne_of_lt h), fun _ => rfl⟩

/-- Settles O27: a stopped block only clears the outputs. -/
theorem rxByteIsIgnoredWhenStopped : Obligations.RxByteIsIgnoredWhenStopped :=
  fun _ d hrun => exec_rxByte_of_stopped d hrun

/-! ### The expiries (42_rtu_framer.md R135 to R143) -/

section
variable {s : State}

theorem exec_t15Expire_of_armed (ha : s.t15.armed = true) : exec .t15Expire s = .next (t15Fire (beginStep s)) := by
  simp [ha]

theorem exec_t15Expire_stale (ha : s.t15.armed = false) : exec .t15Expire s = .next (beginStep s) := by
  simp [ha]

theorem exec_t35Expire_of_armed (ha : s.t35.armed = true) : exec .t35Expire s = .next (t35Fire (beginStep s)) := by
  simp [ha]

theorem exec_t35Expire_stale (ha : s.t35.armed = false) : exec .t35Expire s = .next (beginStep s) := by
  simp [ha]

theorem t15Fire_of_ne_receiving (hf : s.fsm ≠ .receiving) : t15Fire s = stopT15 s := by
  obtain ⟨hr, -⟩ | ⟨-, e⟩ := t15Fire_cases s
  · exact absurd hr hf
  · exact e

theorem t35Fire_of_error (hf : s.fsm = .error) : t35Fire s = toIdle (stopT35 s) := by
  simp [t35Fire, hf]

/-- In `Idle` and `Receiving` no candidate frame waits. -/
theorem t35Fire_of_no_candidate (hf : s.fsm = .idle ∨ s.fsm = .receiving) : t35Fire s = stopT35 s := by
  obtain hf | hf := hf <;> simp [t35Fire, hf]

end

/-- Settles O30: `t15_fire` in `Receiving`, elsewhere, and the stale expiry. -/
theorem t15ExpireFiresAnArmedTimer : Obligations.T15ExpireFiresAnArmedTimer := by
  refine ⟨fun s ha hf => exec_t15Expire_of_receiving ha hf, fun s ha hf => ?_, fun s ha => exec_t15Expire_stale ha⟩
  have hne : (beginStep s).fsm ≠ .receiving := by
    obtain h | h | h := hf <;> simp [h]
  rw [exec_t15Expire_of_armed ha, t15Fire_of_ne_receiving hne]
  rfl

/-- Settles O31: `t35_fire` in `FrameReady`, in `Error`, elsewhere, and the stale expiry. -/
theorem t35ExpireFiresAnArmedTimer : Obligations.T35ExpireFiresAnArmedTimer := by
  refine ⟨fun s ha hf => ⟨⟨_, exec_t35Expire_of_frameReady ha hf, rfl⟩, ?_⟩, fun s ha hf => ?_, fun s ha hf => ?_,
    fun s ha => exec_t35Expire_stale ha⟩
  · simp [discardCause, t35Cause, ha, hf]
  · exact ⟨_, exec_t35Expire_of_armed ha, by rw [t35Fire_of_error (s := beginStep s) hf]; rfl⟩
  · rw [exec_t35Expire_of_armed ha, t35Fire_of_no_candidate (s := beginStep s) hf]
    rfl

/-- The cause of a discard: `OVF` is checked first, then the length, then the CRC (42_rtu_framer.md R140). -/
theorem frameCause_cases (f : List Byte) (ovf : Bool) :
    (ovf = true ∧ frameCause f ovf = some .overrun) ∨
    (ovf = false ∧ f.length < 4 ∧ frameCause f ovf = some .shortFrame) ∨
    (ovf = false ∧ 4 ≤ f.length ∧ verify f = true ∧ frameCause f ovf = none) ∨
    (ovf = false ∧ 4 ≤ f.length ∧ verify f = false ∧ frameCause f ovf = some .crcMismatch) := by
  unfold frameCause
  cases ovf
  · obtain hlen | hlen := Nat.lt_or_ge f.length 4
    · simp [hlen]
    · cases hv : verify f <;> simp [hlen, hlen.not_gt]
  · simp

/-- Settles O32: each cause stands in exactly one of the four cases. -/
theorem validationChecksOverrunLengthCrc : Obligations.ValidationChecksOverrunLengthCrc := by
  intro f ovf
  refine ⟨frameValid_iff f ovf, ?_⟩
  obtain ⟨hovf, e⟩ | ⟨hovf, hlen, e⟩ | ⟨hovf, hlen, hv, e⟩ | ⟨hovf, hlen, hv, e⟩ := frameCause_cases f ovf
  · rw [e]
    simp [hovf]
  · rw [e]
    simp [hovf, hlen]
  · rw [e]
    simp [hovf, hlen, hv]
  · rw [e]
    simp [hovf, hlen, hv]

/-! ### `STATE` (42_rtu_framer.md R144, R147) -/

section
variable (s : State)

@[simp] theorem acceptByte_fsm (d : Byte) : (acceptByte d s).fsm = .receiving := by
  obtain ⟨hf, e⟩ | ⟨-, o, e, -, -⟩ := acceptByte_cases d s
  · simp [e, hf]
  · rw [e, startFrame_eq]

theorem t15Fire_fsm : (t15Fire s).fsm = if s.fsm = .receiving then .frameReady else s.fsm := by
  obtain ⟨hf, e⟩ | ⟨hf, e⟩ := t15Fire_cases s <;> simp [e, hf]

theorem t35Fire_fsm : (t35Fire s).fsm = if s.fsm = .frameReady ∨ s.fsm = .error then .idle else s.fsm := by
  obtain ⟨hf, e⟩ | ⟨hf, e⟩ | ⟨hf | hf, e⟩ := t35Fire_cases s <;> simp [e, hf]

/-- `STATE` and `T35` after the t1.5 half of a tick: the last tick of `T15` in `Receiving` moves both, any other
neither. -/
theorem tickT15_fsm_t35_cases (a : Bool) :
    ((a = true ∧ s.t15.count = 1 ∧ s.fsm = .receiving) ∧
      (tickT15 a s).fsm = .frameReady ∧ (tickT15 a s).t35 = Timer.armedWith (t35Ticks s.cfg)) ∨
    (¬ (a = true ∧ s.t15.count = 1 ∧ s.fsm = .receiving) ∧
      (tickT15 a s).fsm = s.fsm ∧ (tickT15 a s).t35 = s.t35) := by
  obtain ⟨ha, e⟩ | ⟨-, hne, e⟩ | ⟨ha, hone, e⟩ := tickT15_cases a s
  · exact .inr (by simp [ha])
  · exact .inr (by simp [e, mt (count_sub_one_eq_zero_iff _).mpr hne])
  · rw [e, t15Fire_countT15]
    obtain ⟨hf, e⟩ | ⟨hf, e⟩ := t15Fire_cases s
    · exact .inl (by simp [e, hf, ha, (count_sub_one_eq_zero_iff _).mp hone])
    · exact .inr (by simp [e, hf])

theorem tickT35_fsm (a : Bool) : (tickT35 a s).fsm =
    if (a && s.t35.armed) = true ∧ s.t35.count = 1 ∧ (s.fsm = .frameReady ∨ s.fsm = .error) then .idle
    else s.fsm := by
  obtain ⟨ha, e⟩ | ⟨-, hne, e⟩ | ⟨ha, hone, e⟩ := tickT35_cases a s
  · simp [e, ha]
  · simp [e, mt (count_sub_one_eq_zero_iff _).mpr hne]
  · rw [e, t35Fire_countT35, t35Fire_fsm]
    simp [ha, (count_sub_one_eq_zero_iff _).mp hone]

end

/-- A `T35` just armed under a legal configuration is not at its last tick (40_timing_unit.md R95). -/
theorem t35_load_count_ne_one {c : Config} (hc : configLegal c = true) : (Timer.armedWith (t35Ticks c)).count ≠ 1 := by
  obtain ⟨hrange, hfit⟩ := (configLegal_iff c).mp hc
  exact armedWith_count_ne_one (Nat.lt_of_le_of_lt (t15Ticks_pos hrange) (t15Ticks_lt_t35Ticks hrange)) hfit

/-- `STATE` over a whole tick. -/
theorem tick_fsm {s : State} (hc : configLegal s.cfg = true) :
    (tickT35 s.t35.armed (tickT15 s.t15.armed s)).fsm =
      if s.t15.armed = true ∧ s.t15.count = 1 ∧ s.fsm = .receiving then .frameReady
      else if s.t35.armed = true ∧ s.t35.count = 1 ∧ (s.fsm = .frameReady ∨ s.fsm = .error) then .idle
      else s.fsm := by
  rw [tickT35_fsm]
  obtain ⟨hmoves, hf, h35⟩ | ⟨hstays, hf, h35⟩ := tickT15_fsm_t35_cases s s.t15.armed
  · rw [if_pos hmoves, if_neg (fun h => t35_load_count_ne_one hc (h35 ▸ h.2.1)), hf]
  · rw [if_neg hstays, hf, h35, Bool.and_self]

/-- Settles O35: by command, the `STATE` its meaning leaves. -/
theorem stateTransitionTable : Obligations.StateTransitionTable := by
  intro s t i h
  cases i with
  | rxByte d =>
    rw [exec_rxByte] at h
    cases h
    cases hrun : s.run <;> simp
  | tick =>
    intro hc
    rw [exec_tick] at h
    cases h
    exact tick_fsm (s := beginStep s) hc
  | t15Expire =>
    rw [exec_t15Expire] at h
    cases h
    cases ha : s.t15.armed with
    | false => simp
    | true => by_cases hf : s.fsm = .receiving <;> simp [t15Fire_fsm, hf]
  | t35Expire =>
    rw [exec_t35Expire] at h
    cases h
    cases ha : s.t35.armed with
    | false => simp
    | true => by_cases hf : s.fsm = .frameReady ∨ s.fsm = .error <;> simp [t35Fire_fsm, hf]
  | crcInit | crcByte _ | txBegin | txByte _ | txEnd | txAbort =>
    exact congrArg ReceiveSide.fsm (exec_receiveSide_eq rfl h)
  | stop | reset =>
    cases h
    rfl

/-- A tick enters `FrameReady` or `Idle` or leaves `STATE` as it is, under any constants. -/
theorem tick_fsm_error {s : State} {a b : Bool} (h : (tickT35 b (tickT15 a s)).fsm = .error) : s.fsm = .error := by
  rw [tickT35_fsm] at h
  obtain ⟨-, hf, -⟩ | ⟨-, hf, -⟩ := tickT15_fsm_t35_cases s a
  · rw [hf] at h
    split at h <;> cases h
  · rw [hf] at h
    split at h
    · cases h
    · exact h

/-- No command enters `Error` (42_rtu_framer.md R147). -/
theorem exec_fsm_error {i : Instr} {s t : State} (h : exec i s = .next t) (ht : t.fsm = .error) : s.fsm = .error := by
  have htable := stateTransitionTable s t i h
  cases i with
  | tick =>
    rw [exec_tick] at h
    cases h
    exact tick_fsm_error (s := beginStep s) ht
  | rxByte _ | t15Expire | t35Expire =>
    dsimp only at htable
    rw [ht] at htable
    split at htable
    · cases htable
    · exact htable.symm
  | crcInit | crcByte _ | txBegin | txByte _ | txEnd | txAbort => exact htable.symm.trans ht
  | stop | reset => cases htable.symm.trans ht

/-- Every run completes, since every command does (00_scope.md R11). -/
theorem runCommands_completes (cs : List Instr) (s : State) : ∃ t outs, runCommands cs s = some (t, outs) := by
  induction cs generalizing s with
  | nil => exact ⟨s, [], rfl⟩
  | cons i is ih =>
    obtain ⟨u, he⟩ := everyCommandCompletesInEveryState i s
    obtain ⟨t, outs, hr⟩ := ih u
    exact ⟨t, _, runCommands_cons he hr⟩

/-- Settles O56: not to be in `Error` is kept by every command, so by every run. -/
theorem errorIsUnreachable : Obligations.ErrorIsUnreachable := by
  refine ⟨fun i s t h => exec_fsm_error h, fun c cs => ?_⟩
  obtain ⟨t, outs, hr⟩ := runCommands_completes cs (State.construct c)
  exact ⟨t, outs, hr, runCommands_keeps (P := fun s => s.fsm ≠ .error) (fun i s t hs he => mt (exec_fsm_error he) hs)
    (by simp [(construct_hasResetValues c).fsmIdle]) hr⟩

/-! ### What is emitted (42_rtu_framer.md R139, R141) -/

section
variable {s t : State} {f : List Byte}

/-- Firing `T35` emits only in `FrameReady`, and there the whole content of the buffer when it is valid. -/
theorem t35Fire_emits (hout : s.out.frameOut = none) (h : (t35Fire s).out.frameOut = some f) :
    s.fsm = .frameReady ∧ f = frameBytes s ∧ frameValid f s.ovf = true ∧
      (t35Fire s).fsm = .idle ∧ (t35Fire s).len.val = 0 := by
  obtain ⟨hf, e⟩ | ⟨-, e⟩ | ⟨-, e⟩ := t35Fire_cases s <;> rw [e] at h ⊢
  · obtain ⟨hvalid, rfl⟩ : frameValid (frameBytes s) s.ovf = true ∧ frameBytes s = f := by simpa using h
    exact ⟨hf, rfl, hvalid, rfl, rfl⟩
  all_goals cases hout.symm.trans h

/-- `T35` fires in a step from `s`, in the state `u` that the step has reached by then. -/
structure FiresT35In (s u : State) : Prop where
  armed : s.t35.armed = true
  out : u.out = Output.none
  content : frameBytes u = frameBytes s
  ovf : u.ovf = s.ovf
  fsm : configLegal s.cfg = true → u.fsm = s.fsm

theorem beginStep_firesT35In (ha : s.t35.armed = true) : FiresT35In s (beginStep s) :=
  ⟨ha, rfl, rfl, rfl, fun _ => rfl⟩

theorem acceptByte_out (d : Byte) (hout : s.out.frameOut = none) : (acceptByte d s).out = s.out := by
  obtain ⟨-, e⟩ | ⟨-, o, e, -, ho⟩ := acceptByte_cases d s
  · simp [e]
  · rw [e, ho hout, startFrame_eq]

theorem t15Fire_out (s : State) : (t15Fire s).out = s.out := by
  obtain ⟨-, e⟩ | ⟨-, e⟩ := t15Fire_cases s <;> rw [e]

/-- A tick emits in its t3.5 half, in the state the t1.5 half left. -/
theorem exec_tick_emits (h : exec .tick s = .next t) (hout : t.out.frameOut = some f) :
    ∃ u, FiresT35In s u ∧ t = t35Fire u := by
  obtain ⟨-, -, hbuf, hlen, hovf, hnone, -⟩ := tickT15_keeps s.t15.armed (beginStep s)
  rw [exec_tick] at h
  cases h
  obtain ⟨-, e⟩ | ⟨-, -, e⟩ | ⟨ha, hone, e⟩ := tickT35_cases s.t35.armed (tickT15 s.t15.armed (beginStep s))
  · simp [e, hnone] at hout
  · simp [e, hnone] at hout
  · rw [e, t35Fire_countT35]
    refine ⟨_, ⟨(Bool.and_eq_true_iff.mp ha).1, hnone, ?_, hovf, fun hc => ?_⟩, rfl⟩
    · rw [frameBytes, hbuf, hlen]
      rfl
    · obtain ⟨-, -, h35⟩ | ⟨-, hf, -⟩ := tickT15_fsm_t35_cases (beginStep s) s.t15.armed
      · exact absurd (h35 ▸ (count_sub_one_eq_zero_iff _).mp hone) (t35_load_count_ne_one hc)
      · exact hf

/-- All a command that emits can be: one that fires `T35`. -/
theorem exec_emits {i : Instr} (h : exec i s = .next t) (hout : t.out.frameOut = some f) :
    (i = .tick ∨ i = .t35Expire) ∧ ∃ u, FiresT35In s u ∧ t = t35Fire u := by
  cases i with
  | tick => exact ⟨.inl rfl, exec_tick_emits h hout⟩
  | t35Expire =>
    cases ha : s.t35.armed with
    | true =>
      cases (exec_t35Expire_of_armed ha).symm.trans h
      exact ⟨.inr rfl, _, beginStep_firesT35In ha, rfl⟩
    | false =>
      cases (exec_t35Expire_stale ha).symm.trans h
      cases hout
  | rxByte d =>
    rw [exec_rxByte] at h
    cases h
    split at hout
    · rw [acceptByte_out (s := beginStep s) d rfl] at hout
      cases hout
    · cases hout
  | t15Expire =>
    rw [exec_t15Expire] at h
    cases h
    split at hout
    · rw [t15Fire_out] at hout
      cases hout
    · cases hout
  | txBegin | txByte _ | txEnd =>
    simp only [exec_txBegin, exec_txByte, exec_txEnd] at h
    cases h
    split at hout <;> cases hout
  | crcInit | crcByte _ | txAbort | stop | reset =>
    cases h
    cases hout

end

/-- Settles O33: the command fires `T35`, which validates the frame that the state before holds. -/
theorem emittedFramesPassedTheCheck : Obligations.EmittedFramesPassedTheCheck := by
  intro i s t f h hout
  obtain ⟨hi, u, hu, rfl⟩ := exec_emits h hout
  obtain ⟨hf, hcontent, hvalid, hidle, hempty⟩ := t35Fire_emits (congrArg Output.frameOut hu.out) hout
  obtain ⟨hovf, hlen, hverify⟩ := (frameValid_iff f u.ovf).mp hvalid
  rw [hu.content] at hcontent
  have hcap : f.length ≤ 256 := by
    rw [hcontent, frameBytes_length]
    exact Nat.le_of_lt_succ s.len.isLt
  exact ⟨hlen, hcap, hverify, hcontent, hu.ovf.symm.trans hovf, hi, fun hc => (hu.fsm hc).symm.trans hf, hu.armed,
    by simp, hidle, hempty⟩

/-! ### Runs without an output

Most commands of the frame boundary are silent. What such a stretch does is said up to the outputs of the last
step, which no command reads (log 3). -/

/-- The commands run from `s` without an output and lead to `t`, the outputs of the last step aside. -/
def RunsSilently (cs : List Instr) (s t : State) : Prop :=
  ∃ u, runCommands cs s = some (u, List.replicate cs.length Output.none) ∧ beginStep u = beginStep t

section
variable {s t u : State} {cs ds : List Instr}

theorem RunsSilently.refl (h : beginStep s = beginStep t) : RunsSilently [] s t := ⟨s, rfl, h⟩

theorem RunsSilently.of_exec {i : Instr} (h : exec i s = .next (beginStep t)) : RunsSilently [i] s t :=
  ⟨beginStep t, runCommands_cons h (runCommands_nil _), rfl⟩

/-- The first command of a run clears the outputs before it. -/
theorem runCommands_congr_beginStep (hne : cs ≠ []) (h : beginStep s = beginStep t) :
    runCommands cs s = runCommands cs t := by
  obtain ⟨i, is, rfl⟩ := List.exists_cons_of_ne_nil hne
  rw [runCommands, exec_congr_beginStep h, runCommands]

theorem RunsSilently.congr_start (hs : beginStep s = beginStep t) (h : RunsSilently cs t u) : RunsSilently cs s u := by
  obtain ⟨v, hrun, hv⟩ := h
  by_cases hne : cs = []
  · subst hne
    cases hrun
    exact .refl (hs.trans hv)
  · exact ⟨v, (runCommands_congr_beginStep hne hs).trans hrun, hv⟩

/-- After a silent stretch a run goes on as from the state the stretch is said to lead to. -/
theorem RunsSilently.run_append {outs : List Output} (h : RunsSilently cs s t) (hne : ds ≠ [])
    (h' : runCommands ds t = some (u, outs)) :
    runCommands (cs ++ ds) s = some (u, List.replicate cs.length Output.none ++ outs) := by
  obtain ⟨v, hrun, hv⟩ := h
  exact runCommands_append hrun ((runCommands_congr_beginStep hne hv).trans h')

theorem RunsSilently.append (h : RunsSilently cs s t) (h' : RunsSilently ds t u) : RunsSilently (cs ++ ds) s u := by
  obtain ⟨v, hrun, hv⟩ := h
  obtain ⟨w, hrun', hw⟩ := h'.congr_start hv
  exact ⟨w, by rw [runCommands_append hrun hrun', List.length_append, List.replicate_append_replicate], hw⟩

/-- Commands that each only clear the outputs do so together. -/
theorem runsSilently_of_inert (h : ∀ i ∈ cs, exec i s = .next (beginStep s)) : RunsSilently cs s s := by
  induction cs with
  | nil => exact .refl rfl
  | cons i is ih =>
    obtain ⟨hi, his⟩ := List.forall_mem_cons.mp h
    exact (RunsSilently.of_exec hi).append (ih his)

end

@[simp] theorem ticks_length (n : Nat) : (ticks n).length = n := List.length_replicate

theorem ticks_ne_nil {n : Nat} (h : 1 ≤ n) : ticks n ≠ [] := List.ne_nil_of_length_pos (by rwa [ticks_length])

theorem framesOf_cons (o : Output) (outs : List Output) :
    framesOf (o :: outs) = o.frameOut.toList ++ framesOf outs := by
  cases h : o.frameOut <;> simp [framesOf, h]

theorem wireOf_cons (o : Output) (outs : List Output) : wireOf (o :: outs) = o.wireOut ++ wireOf outs :=
  List.flatMap_cons

@[simp] theorem framesOf_replicate_none (n : Nat) : framesOf (List.replicate n Output.none) = [] := by
  simp [framesOf]

@[simp] theorem wireOf_replicate_none (n : Nat) : wireOf (List.replicate n Output.none) = [] := by
  simp [wireOf]

/-! ### The frame boundary (42_rtu_framer.md R148)

The last byte of a frame leaves `T15` armed in full; the ticks after it lead through three stages. -/

/-- A byte has just arrived: a frame is open and `T15` has been armed in full. -/
structure State.JustReceived (s : State) : Prop where
  fsm : s.fsm = .receiving
  t15 : s.t15 = Timer.armedWith (t15Ticks s.cfg)
  t35 : s.t35 = Timer.off

/-- What the expiry of `T15` leaves of an open frame: it waits in `FrameReady` with `T35` armed in full. -/
def closeFrame (s : State) : State :=
  { s with out := Output.none, fsm := .frameReady, t15 := Timer.off, t35 := Timer.armedWith (t35Ticks s.cfg) }

/-- The output of the step that validates the frame of `s` (42_rtu_framer.md R139 to R142). -/
def frameOutput (s : State) : Output :=
  { frameOut := if frameValid (frameBytes s) s.ovf then some (frameBytes s) else none, wireOut := [] }

/-- What the expiry of `T35` leaves of a closed frame. -/
def finishFrame (s : State) : State :=
  { s with out := frameOutput s, fsm := .idle, len := 0, ovf := false, t15 := Timer.off, t35 := Timer.off }

theorem ticks_fit {c : Config} (hc : configLegal c = true) :
    1 ≤ t15Ticks c ∧ t15Ticks c < 2 ^ 32 ∧ 1 ≤ t35Ticks c ∧ t35Ticks c < 2 ^ 32 := by
  obtain ⟨hrange, hfit⟩ := (configLegal_iff c).mp hc
  have hpos := t15Ticks_pos hrange
  have hlt := t15Ticks_lt_t35Ticks hrange
  omega

section
variable {s : State} {k g : Nat}

/-- Before `T15_TICKS` ticks `T15` counts. -/
theorem State.JustReceived.ticks_open (h : s.JustReceived) (hc : configLegal s.cfg = true) (hk : k < t15Ticks s.cfg) :
    RunsSilently (ticks k) s (withT15 (t15Ticks s.cfg - k) s) := by
  obtain ⟨-, hfit, -⟩ := ticks_fit hc
  rw [RunsSilently, ticks_length]
  exact runCommands_ticks_count (f := fun m => withT15 m s) (exec_tick_withT15 h.t35) hk hfit
    (congrArg beginStep (withT15_self h.t15).symm)

/-- The tick numbered `T15_TICKS` closes the frame. -/
theorem State.JustReceived.ticks_close (h : s.JustReceived) (hc : configLegal s.cfg = true) :
    RunsSilently (ticks (t15Ticks s.cfg)) s (closeFrame s) := by
  obtain ⟨hpos, hfit, -⟩ := ticks_fit hc
  have hrun := runCommands_ticks_last (f := fun m => withT15 m s) (exec_tick_withT15 h.t35) hpos hfit
    (congrArg beginStep (withT15_self h.t15).symm) (exec_tick_withT15_one h.fsm h.t35)
  rw [← List.replicate_succ', Nat.sub_add_cancel hpos] at hrun
  exact ⟨closeFrame s, by rw [ticks_length]; exact hrun, rfl⟩

/-- In the `T35_TICKS - 1` ticks after that `T35` counts. -/
theorem State.JustReceived.ticks_wait (h : s.JustReceived) (hc : configLegal s.cfg = true) (hk : k < t35Ticks s.cfg) :
    RunsSilently (ticks (t15Ticks s.cfg + k)) s (withT35 (t35Ticks s.cfg - k) (closeFrame s)) := by
  obtain ⟨-, -, -, hfit⟩ := ticks_fit hc
  rw [ticks_add]
  refine (h.ticks_close hc).append ?_
  rw [RunsSilently, ticks_length]
  exact runCommands_ticks_count (f := fun m => withT35 m (closeFrame s)) (exec_tick_withT35 rfl) hk hfit rfl

/-- The tick numbered `T15_TICKS + T35_TICKS` validates the frame. -/
theorem State.JustReceived.ticks_finish (h : s.JustReceived) (hc : configLegal s.cfg = true) :
    runCommands (ticks (t15Ticks s.cfg + t35Ticks s.cfg)) s = some (finishFrame s,
      List.replicate (t15Ticks s.cfg + t35Ticks s.cfg - 1) Output.none ++ [frameOutput s]) := by
  obtain ⟨-, -, hpos, hfit⟩ := ticks_fit hc
  have hlast : exec .tick (withT35 1 (closeFrame s)) = .next (finishFrame s) := exec_tick_withT35_one rfl rfl
  have hrun := runCommands_ticks_last (s := closeFrame s) (f := fun m => withT35 m (closeFrame s))
    (exec_tick_withT35 rfl) hpos hfit rfl hlast
  rw [ticks_add, (h.ticks_close hc).run_append (ticks_ne_nil hpos) hrun, ticks_length, ← List.append_assoc,
    List.replicate_append_replicate, Nat.add_sub_assoc hpos]
  rfl

/-- With neither timer armed any number of ticks does nothing. -/
theorem ticks_inert (h15 : s.t15 = Timer.off) (h35 : s.t35 = Timer.off) : RunsSilently (ticks k) s s := by
  refine runsSilently_of_inert fun i hi => ?_
  rw [List.eq_of_mem_replicate hi]
  exact tickWithNoTimerArmedChangesNothing s (by rw [h15]; rfl) (by rw [h35]; rfl)

/-- From the tick numbered `T15_TICKS + T35_TICKS` on nothing more happens. -/
theorem State.JustReceived.ticks_after (h : s.JustReceived) (hc : configLegal s.cfg = true)
    (hg : t15Ticks s.cfg + t35Ticks s.cfg ≤ g) : ∃ t, runCommands (ticks g) s = some (t,
      List.replicate (t15Ticks s.cfg + t35Ticks s.cfg - 1) Output.none ++
        frameOutput s :: List.replicate (g - (t15Ticks s.cfg + t35Ticks s.cfg)) Output.none) ∧
      beginStep t = beginStep (finishFrame s) := by
  obtain ⟨k, rfl⟩ := Nat.exists_eq_add_of_le hg
  obtain ⟨t, hrun, ht⟩ := ticks_inert (s := finishFrame s) (k := k) rfl rfl
  refine ⟨t, ?_, ht⟩
  rw [ticks_add, runCommands_append (h.ticks_finish hc) hrun, ticks_length, Nat.add_sub_cancel_left, List.append_assoc]
  rfl

end

/-- Settles O22: the three stages of the ticks after the last byte. -/
theorem frameBoundaryTimeline : Obligations.FrameBoundaryTimeline := by
  intro s g hc hf h15 h35
  have h : s.JustReceived := ⟨hf, h15, h35⟩
  obtain hopen | hclosed := Nat.lt_or_ge g (t15Ticks s.cfg)
  · obtain ⟨t, hrun, ht⟩ := h.ticks_open hc hopen
    rw [ticks_length] at hrun
    have hbuf := congrArg State.buf ht
    have hlen := congrArg State.len ht
    have hovf := congrArg State.ovf ht
    exact ⟨t, _, hrun, fun _ a _ => congrArg (bufRead · a) hbuf,
      fun _ => ⟨rfl, (congrArg State.fsm ht).trans hf, hlen, hovf, congrArg State.t15 ht,
        (congrArg State.t35 ht).trans h35⟩,
      fun _ => by omega, fun _ => by omega⟩
  obtain ⟨k, rfl⟩ := Nat.exists_eq_add_of_le hclosed
  obtain hwait | hdone := Nat.lt_or_ge k (t35Ticks s.cfg)
  · obtain ⟨t, hrun, ht⟩ := h.ticks_wait hc hwait
    rw [ticks_length] at hrun
    have hbuf := congrArg State.buf ht
    have hlen := congrArg State.len ht
    have hovf := congrArg State.ovf ht
    rw [Nat.add_sub_add_left]
    exact ⟨t, _, hrun, fun _ a _ => congrArg (bufRead · a) hbuf, fun _ => by omega,
      fun _ _ => ⟨rfl, congrArg State.fsm ht, hlen, hovf, congrArg State.t15 ht, congrArg State.t35 ht⟩,
      fun _ => by omega⟩
  · obtain ⟨t, hrun, ht⟩ := h.ticks_after hc (Nat.add_le_add_left hdone _)
    have hempty := congrArg (fun u => u.len.val) ht
    have hovf := congrArg State.ovf ht
    exact ⟨t, _, hrun, fun _ => by omega, fun _ => by omega, fun _ _ => by omega,
      fun _ => ⟨rfl, congrArg State.fsm ht, hempty, hovf, congrArg State.t15 ht, congrArg State.t35 ht⟩⟩

/-! ### Bytes with small gaps (42_rtu_framer.md R149) -/

/-- The bytes appended one after another (20_memory.md R51). -/
def appendAll (bs : List Byte) (s : State) : State := bs.foldl (fun u b => append b u) s

@[simp] theorem appendAll_nil (s : State) : appendAll [] s = s := rfl

@[simp] theorem appendAll_cons (b : Byte) (bs : List Byte) (s : State) :
    appendAll (b :: bs) s = appendAll bs (append b s) := rfl

/-! An append reads neither the outputs nor `T15`. -/

section
variable (d : Byte) (s : State)

theorem append_beginStep : append d (beginStep s) = beginStep (append d s) := by
  rw [append, append, apply_dite beginStep]
  rfl

theorem append_armT15 : append d (armT15 s) = armT15 (append d s) := by
  rw [append, append, apply_dite armT15]
  rfl

end

section
variable {s : State} {bs : List Byte}

/-- While there is room, the frame grows by the byte. -/
theorem frameBytes_append (d : Byte) (hroom : s.len.val < bufCap) :
    frameBytes (append d s) = frameBytes s ++ [d] := by
  rw [append, dif_pos hroom, frameBytes, List.range_succ, List.map_append]
  congr 1
  · refine List.map_congr_left fun i hi => ?_
    rw [bufByte, bufByte, bufRead_bufWrite_other _ _ (List.mem_range.mp hi).ne]
  · simp [bufByte, bufRead_bufWrite_same]

theorem append_len_of_room (d : Byte) (hroom : s.len.val < bufCap) : (append d s).len.val = s.len.val + 1 := by
  rw [append, dif_pos hroom]

theorem append_ovf_of_room (d : Byte) (hroom : s.len.val < bufCap) : (append d s).ovf = s.ovf := by
  rw [append, dif_pos hroom]

theorem append_ovf_of_full (d : Byte) (hfull : bufCap ≤ s.len.val) : (append d s).ovf = true := by
  rw [append, dif_neg hfull.not_gt, setOvf_ovf]

/-- No append clears `OVF`. -/
theorem append_ovf_of_ovf (d : Byte) (hovf : s.ovf = true) : (append d s).ovf = true := by
  obtain ⟨_, e⟩ | ⟨-, e⟩ := append_cases d s
  · rwa [e]
  · rw [e]

theorem appendAll_ovf_of_ovf (hovf : s.ovf = true) : (appendAll bs s).ovf = true := by
  induction bs generalizing s with
  | nil => exact hovf
  | cons b bs ih => exact ih (append_ovf_of_ovf b hovf)

/-- Bytes that all fit join the frame in order. -/
theorem appendAll_of_fit (hfit : s.len.val + bs.length ≤ bufCap) :
    frameBytes (appendAll bs s) = frameBytes s ++ bs ∧ (appendAll bs s).ovf = s.ovf := by
  induction bs generalizing s with
  | nil => simp
  | cons b bs ih =>
    rw [List.length_cons] at hfit
    have hroom : s.len.val < bufCap := by omega
    obtain ⟨hbytes, hovf⟩ := ih (s := append b s) (by rw [append_len_of_room b hroom]; omega)
    rw [appendAll_cons, hbytes, hovf, frameBytes_append b hroom, append_ovf_of_room b hroom]
    simp

/-- One byte too many leaves `OVF` set. -/
theorem appendAll_ovf_of_overflow (hover : bufCap < s.len.val + bs.length) : (appendAll bs s).ovf = true := by
  induction bs generalizing s with
  | nil =>
    have := s.len.isLt
    simp only [List.length_nil] at hover
    omega
  | cons b bs ih =>
    obtain hroom | hfull := Nat.lt_or_ge s.len.val bufCap
    · refine ih ?_
      rw [append_len_of_room b hroom]
      rw [List.length_cons] at hover
      omega
    · exact appendAll_ovf_of_ovf (s := append b s) (append_ovf_of_full b hfull)

/-- The frame of `start_frame` is its byte. -/
theorem frameBytes_startFrame (d : Byte) : frameBytes (startFrame d s) = [d] :=
  frameBytes_append (s := clearFrame s) d (by simp [bufCap])

/-- What the bytes `b :: bs` make of a frame started with `b`: its validation is that of the bytes if they fit, and
fails otherwise. -/
theorem frameOutput_appendAll_startFrame (b : Byte) : frameOutput (appendAll bs (startFrame b s)) =
    { frameOut := if 4 ≤ bs.length + 1 ∧ bs.length + 1 ≤ 256 ∧ verify (b :: bs) = true then some (b :: bs) else none,
      wireOut := [] } := by
  have hlen : (startFrame b s).len.val = 1 := rfl
  obtain hover | hfit := Nat.lt_or_ge 256 (bs.length + 1)
  · have hovf := appendAll_ovf_of_overflow (s := startFrame b s) (bs := bs) (by rw [hlen, bufCap]; omega)
    simp [frameOutput, frameValid_iff, hovf, hover.not_ge]
  · obtain ⟨hbytes, hovf⟩ := appendAll_of_fit (s := startFrame b s) (bs := bs) (by rw [hlen, bufCap]; omega)
    rw [frameBytes_startFrame, List.singleton_append] at hbytes
    have hvalid : frameValid (b :: bs) (startFrame b s).ovf = true ↔
        4 ≤ bs.length + 1 ∧ bs.length + 1 ≤ 256 ∧ verify (b :: bs) = true := by
      simp [frameValid_iff, startFrame_eq, hfit]
    simp only [frameOutput, hbytes, hovf, hvalid]

end

section
variable {s : State} {b : Byte} {ps : List (Nat × Byte)} {g : Nat}

@[simp] theorem appendAll_cfg (bs : List Byte) (s : State) : (appendAll bs s).cfg = s.cfg := by
  induction bs generalizing s with
  | nil => rfl
  | cons b bs ih => simp [ih]

/-- An append leaves the state machine and the timers alone. -/
theorem append_justReceived (h : s.JustReceived) (d : Byte) : (append d s).JustReceived :=
  ⟨by simp [h.fsm], by simp [h.t15], by simp [h.t35]⟩

theorem appendAll_justReceived (h : s.JustReceived) (bs : List Byte) : (appendAll bs s).JustReceived := by
  induction bs generalizing s with
  | nil => exact h
  | cons b bs ih => exact ih (append_justReceived h b)

/-- `start_frame` disarms `T35`; in `Receiving` it is disarmed already. -/
theorem acceptByte_justReceived (d : Byte) (h35 : s.fsm = .receiving → s.t35 = Timer.off) :
    (acceptByte d s).JustReceived := by
  obtain ⟨hf, e⟩ | ⟨-, o, e, -, -⟩ := acceptByte_cases d s
  · exact ⟨acceptByte_fsm s d, by simp [e], by simp [e, h35 hf]⟩
  · rw [e, startFrame_eq]
    exact ⟨rfl, rfl, rfl⟩

/-- In an open frame `T15` is re-armed by the byte, however far it has counted. -/
theorem State.JustReceived.exec_rxByte_withT15 (h : s.JustReceived) (hrun : s.run = true) (n : Nat) :
    exec (.rxByte b) (withT15 n s) = .next (beginStep (append b s)) := by
  have hrearm : armT15 (beginStep (withT15 n s)) = beginStep s := congrArg beginStep (withT15_self h.t15)
  rw [exec_rxByte_of_run (s := withT15 n s) b hrun, acceptByte_of_receiving (s := beginStep (withT15 n s)) b h.fsm,
    ← append_armT15, hrearm, append_beginStep]

/-- A gap below `T15_TICKS` leaves no trace: the byte after it joins the frame. -/
theorem State.JustReceived.gap_byte (h : s.JustReceived) (hc : configLegal s.cfg = true) (hrun : s.run = true)
    (hg : g < t15Ticks s.cfg) : RunsSilently (ticks g ++ [.rxByte b]) s (append b s) :=
  (h.ticks_open hc hg).append (.of_exec (h.exec_rxByte_withT15 hrun _))

/-- Bytes with gaps below `T15_TICKS` join the frame, whatever the gaps. -/
theorem State.JustReceived.gapped_bytes (h : s.JustReceived) (hc : configLegal s.cfg = true) (hrun : s.run = true)
    (hgaps : ∀ p ∈ ps, p.1 < t15Ticks s.cfg) : RunsSilently (gappedBytes ps) s (appendAll (ps.map Prod.snd) s) := by
  induction ps generalizing s with
  | nil => exact .refl rfl
  | cons p ps ih =>
    obtain ⟨hp, hps⟩ := List.forall_mem_cons.mp hgaps
    exact (h.gap_byte hc hrun hp).append
      (ih (append_justReceived h p.2) (by simpa using hc) (by simpa using hrun) (by simpa using hps))

/-- The frame of the bytes `b :: bs` that arrive in `s`, before the silence after it. -/
def receivedFrame (b : Byte) (bs : List Byte) (s : State) : State := appendAll bs (acceptByte b (beginStep s))

theorem receivedFrame_cfg (b : Byte) (bs : List Byte) (s : State) : (receivedFrame b bs s).cfg = s.cfg := by
  rw [receivedFrame, appendAll_cfg, (acceptByte_keeps_environment (beginStep s) b).1, beginStep_cfg]

theorem receivedFrame_of_ne_receiving (bs : List Byte) (hf : s.fsm ≠ .receiving) :
    receivedFrame b bs s = appendAll bs (startFrame b (beginStep s)) := by
  rw [receivedFrame, acceptByte_of_ne_receiving b hf]

theorem receivedFrame_justReceived (b : Byte) (bs : List Byte) (h35 : s.fsm = .receiving → s.t35 = Timer.off) :
    (receivedFrame b bs s).JustReceived :=
  appendAll_justReceived (acceptByte_justReceived (s := beginStep s) b h35) bs

/-- Up to the last byte there is no output. -/
theorem runsSilently_gapped_frame (hc : configLegal s.cfg = true) (hrun : s.run = true)
    (h35 : s.fsm = .receiving → s.t35 = Timer.off) (hgaps : ∀ p ∈ ps, p.1 < t15Ticks s.cfg) :
    RunsSilently (.rxByte b :: gappedBytes ps) s (receivedFrame b (ps.map Prod.snd) s) := by
  have hcfg : (acceptByte b (beginStep s)).cfg = s.cfg := (acceptByte_keeps_environment (beginStep s) b).1
  have hrun' : (acceptByte b (beginStep s)).run = true := (acceptByte_receivesOnly b (beginStep s)).run.trans hrun
  have hout : (acceptByte b (beginStep s)).out = Output.none := acceptByte_out (s := beginStep s) b rfl
  have hfirst : RunsSilently [.rxByte b] s (acceptByte b (beginStep s)) :=
    .of_exec (by rw [exec_rxByte_of_run b hrun, beginStep_of_no_output hout])
  exact hfirst.append ((acceptByte_justReceived (s := beginStep s) b h35).gapped_bytes (by rwa [hcfg]) hrun'
    (by rwa [hcfg]))

/-- A byte, further bytes with small gaps and a full trailing gap: the only output is the validation of the frame
that the bytes alone make. -/
theorem runCommands_gapped_frame (hc : configLegal s.cfg = true) (hrun : s.run = true)
    (h35 : s.fsm = .receiving → s.t35 = Timer.off) (hgaps : ∀ p ∈ ps, p.1 < t15Ticks s.cfg)
    (hg : t15Ticks s.cfg + t35Ticks s.cfg ≤ g) :
    ∃ t outs, runCommands (.rxByte b :: gappedBytes ps ++ ticks g) s = some (t, outs) ∧
      framesOf outs = (frameOutput (receivedFrame b (ps.map Prod.snd) s)).frameOut.toList ∧ wireOf outs = [] ∧
      beginStep t = beginStep (finishFrame (receivedFrame b (ps.map Prod.snd) s)) := by
  have hopen := receivedFrame_justReceived b (ps.map Prod.snd) h35
  have hcfg := receivedFrame_cfg b (ps.map Prod.snd) s
  obtain ⟨hpos, -⟩ := ticks_fit hc
  obtain ⟨t, hticks, ht⟩ := hopen.ticks_after (g := g) (by rwa [hcfg]) (by rwa [hcfg])
  refine ⟨t, _, (runsSilently_gapped_frame hc hrun h35 hgaps).run_append (ticks_ne_nil (by omega)) hticks, ?_, ?_, ht⟩
  · simp [framesOf_cons]
  · simp [wireOf_cons, frameOutput]

end

/-- Settles O23: the frame that the bytes make is that of `b :: ps.map Prod.snd` as long as they fit. -/
theorem bytesWithSmallGapsMakeOneFrame : Obligations.BytesWithSmallGapsMakeOneFrame := by
  intro s b ps g hc hrun hf hgaps hg
  obtain ⟨t, outs, hr, hframes, hwire, ht⟩ :=
    runCommands_gapped_frame (b := b) hc hrun (fun h => absurd h hf) hgaps hg
  have hempty := congrArg (fun u => u.len.val) ht
  refine ⟨t, outs, hr, ?_, hwire, congrArg State.fsm ht, hempty⟩
  rw [hframes, receivedFrame_of_ne_receiving _ hf, frameOutput_appendAll_startFrame, List.length_map]
  split <;> rfl

/-- A stopped block takes bytes and ticks without a trace (44_control.md R176). -/
theorem runsSilently_of_stopped {s : State} (h : s.IdlePhase) (hrun : s.run = false) (b : Byte)
    (ps : List (Nat × Byte)) (g : Nat) : RunsSilently (.rxByte b :: gappedBytes ps ++ ticks g) s s := by
  have hbyte (d : Byte) : RunsSilently [.rxByte d] s s := .of_exec (exec_rxByte_of_stopped d hrun)
  have hticks (n : Nat) : RunsSilently (ticks n) s s := ticks_inert h.t15 h.t35
  have hgapped : RunsSilently (gappedBytes ps) s s := by
    induction ps with
    | nil => exact .refl rfl
    | cons p ps ih => exact ((hticks p.1).append (hbyte p.2)).append ih
  exact ((hbyte b).append hgapped).append (hticks g)

theorem registers_eq_of_beginStep_eq {t u : State} (e : beginStep t = beginStep u) : t.fsm = u.fsm ∧ t.len = u.len ∧
    t.ovf = u.ovf ∧ t.t15 = u.t15 ∧ t.t35 = u.t35 ∧ t.run = u.run :=
  ⟨(congrArg State.fsm e :), (congrArg State.len e :), (congrArg State.ovf e :), (congrArg State.t15 e :),
    (congrArg State.t35 e :), (congrArg State.run e :)⟩

/-- Settles O12: a running block makes the frame of the bytes alone, a stopped one none. -/
theorem gapPatternsDoNotMatter : Obligations.GapPatternsDoNotMatter := by
  intro s b ps qs g h hc hinv hbytes hps hqs hg hh
  cases hrun : s.run with
  | true =>
    have h35 (hf : s.fsm = .receiving) : s.t35 = Timer.off := (hinv.receivingPhase hf).t35
    obtain ⟨t, outs, hr, hframes, hwire, ht⟩ := runCommands_gapped_frame (b := b) hc hrun h35 hps hg
    obtain ⟨u, outs', hr', hframes', hwire', hu⟩ := runCommands_gapped_frame (b := b) hc hrun h35 hqs hh
    rw [← hbytes] at hframes' hu
    exact ⟨t, u, outs, outs', hr, hr', hframes.trans hframes'.symm, hwire, hwire',
      registers_eq_of_beginStep_eq (ht.trans hu.symm)⟩
  | false =>
    have hidle := hinv.idlePhase (hinv.stoppedIdle hrun)
    obtain ⟨t, hr, ht⟩ := runsSilently_of_stopped hidle hrun b ps g
    obtain ⟨u, hr', hu⟩ := runsSilently_of_stopped hidle hrun b qs h
    exact ⟨t, u, _, _, hr, hr', by simp, by simp, by simp, registers_eq_of_beginStep_eq (ht.trans hu.symm)⟩

end Sys2Proof.Machine

/-! ## Transmit: the enable, the appended CRC and the independence of the receive side (43_transmit.md R161 to R166) -/

namespace Sys2Proof.Machine

/-! ### The commands on either side of the enable (43_transmit.md R161 to R164) -/

section
variable {s : State} (d : Byte)

theorem exec_txBegin_of_disabled (h : s.txEn = false) :
    exec .txBegin s = .next (setTxCrc crcInit (setTxEn (beginStep s))) := by
  simp [h]

theorem exec_txBegin_of_enabled (h : s.txEn = true) : exec .txBegin s = .next (beginStep s) := by
  simp [h]

theorem exec_txByte_of_disabled (h : s.txEn = false) : exec (.txByte d) s = .next (beginStep s) := by
  simp [h]

theorem exec_txByte_of_enabled (h : s.txEn = true) :
    exec (.txByte d) s = .next (setTxCrc (crcStep s.txCrc d) (wire [d] (beginStep s))) := by
  simp [h]

theorem exec_txEnd_of_disabled (h : s.txEn = false) : exec .txEnd s = .next (beginStep s) := by
  simp [h]

theorem exec_txEnd_of_enabled (h : s.txEn = true) :
    exec .txEnd s = .next (clearTxEn (wire (crcWireBytes s.txCrc) (beginStep s))) := by
  simp [h]

/-- Releasing a transmitter that is not enabled changes nothing. -/
theorem clearTxEn_of_disabled (h : s.txEn = false) : clearTxEn s = s := by
  rw [clearTxEn, ← h]

end

/-- Settles O45: the equations of the four commands on either side of their guard. -/
theorem transmitCommandsFollowTheEnable : Obligations.TransmitCommandsFollowTheEnable := by
  refine ⟨fun s h => ?_, fun s h => ⟨exec_txBegin_of_enabled h, fun d => exec_txByte_of_enabled d h,
    exec_txEnd_of_enabled h, exec_txAbort s⟩⟩
  refine ⟨exec_txBegin_of_disabled h, fun d => exec_txByte_of_disabled d h, exec_txEnd_of_disabled h, ?_⟩
  rw [exec_txAbort, clearTxEn_of_disabled (s := beginStep s) h]
  rfl

/-! ### A transmission (43_transmit.md R165)

The transmit commands of a list are run on their own first. What other commands stand between them does not matter,
since the transmit side depends on nothing else; the same holds of every first part of the list. -/

section
variable {s u v : State} {cs : List Instr} {outs : List Output}

theorem transmitSide_beginStep_congr (h : transmitSide s = transmitSide u) :
    transmitSide (beginStep s) = transmitSide (beginStep u) := by
  simp only [transmitSide, TransmitSide.mk.injEq] at h
  obtain ⟨-, hcrc, hen⟩ := h
  simp [transmitSide, hcrc, hen]

/-- Commands of the other families, `RESET` aside, change neither the bytes a run wires nor the enable. -/
theorem runCommands_of_filter_isTransmit (hreset : Instr.reset ∉ cs)
    (hsu : transmitSide (beginStep s) = transmitSide (beginStep u))
    (h : runCommands (cs.filter isTransmit) u = some (v, outs)) :
    ∃ t outs', runCommands cs s = some (t, outs') ∧ wireOf outs' = wireOf outs ∧ t.txEn = v.txEn := by
  induction cs generalizing s u outs with
  | nil =>
    cases h
    exact ⟨s, [], rfl, rfl, congrArg TransmitSide.txEn hsu⟩
  | cons i is ih =>
    obtain ⟨hi, his⟩ := not_or.mp (mt List.mem_cons.mpr hreset)
    obtain ⟨t, ht⟩ := everyCommandCompletesInEveryState i s
    cases htx : isTransmit i with
    | false =>
      rw [List.filter_cons_of_neg (by simp [htx])] at h
      have hside := exec_transmitSide_eq ht htx (Ne.symm hi)
      obtain ⟨w, outs', hr, hwire, hen⟩ := ih his ((transmitSide_beginStep_congr hside).trans hsu) h
      have hsilent : t.out.wireOut = [] := congrArg TransmitSide.wireOut hside
      exact ⟨w, _, runCommands_cons ht hr, by simp [wireOf_cons, hsilent, hwire], hen⟩
    | true =>
      rw [List.filter_cons_of_pos htx] at h
      obtain ⟨u', outs₁, hu, hr', rfl⟩ := runCommands_cons_inv h
      have hside := transmitSideIgnoresReceiveAndPort i s u t u' hsu ht hu
      obtain ⟨w, outs', hr, hwire, hen⟩ := ih his (transmitSide_beginStep_congr hside) hr'
      have hsame : t.out.wireOut = u'.out.wireOut := congrArg TransmitSide.wireOut hside
      exact ⟨w, _, runCommands_cons ht hr, by simp [wireOf_cons, hsame, hwire], hen⟩

theorem runCommands_txBytes (hen : s.txEn = true) (bs : List Byte) :
    ∃ t outs, runCommands (bs.map .txByte) s = some (t, outs) ∧ wireOf outs = bs ∧ t.txEn = true ∧
      t.txCrc = bs.foldl crcStep s.txCrc := by
  induction bs generalizing s with
  | nil => exact ⟨s, [], rfl, rfl, hen, rfl⟩
  | cons b bs ih =>
    obtain ⟨t, outs, hr, hwire, hen', hcrc⟩ := ih (s := setTxCrc (crcStep s.txCrc b) (wire [b] (beginStep s))) hen
    exact ⟨t, _, runCommands_cons (exec_txByte_of_enabled b hen) hr, by simp [wireOf_cons, hwire], hen', hcrc⟩

/-- A transmission that is still open has wired its bytes and holds their CRC. -/
theorem runCommands_openTransmission (hen : s.txEn = false) (bs : List Byte) :
    ∃ t outs, runCommands (.txBegin :: bs.map .txByte) s = some (t, outs) ∧ wireOf outs = bs ∧ t.txEn = true ∧
      t.txCrc = crc16 bs := by
  obtain ⟨t, outs, hr, hwire, hen', hcrc⟩ := runCommands_txBytes (s := setTxCrc crcInit (setTxEn (beginStep s))) rfl bs
  exact ⟨t, _, runCommands_cons (exec_txBegin_of_disabled hen) hr, by simp [wireOf_cons, hwire], hen', hcrc⟩

theorem runCommands_txFrame (hen : s.txEn = false) (bs : List Byte) :
    ∃ t outs, runCommands (txFrame bs) s = some (t, outs) ∧ wireOf outs = bs ++ crcWireBytes (crc16 bs) ∧
      t.txEn = false := by
  obtain ⟨t, outs, hr, hwire, hen', hcrc⟩ := runCommands_openTransmission hen bs
  have hend := runCommands_cons (exec_txEnd_of_enabled hen') (runCommands_nil _)
  exact ⟨_, _, runCommands_append hr hend, by simp [wireOf_cons, hwire, hcrc], rfl⟩

/-- A proper first part of a transmission is an open transmission of some of its bytes. -/
theorem openTransmission_of_append_eq_txFrame {ps qs : List Instr} {bs : List Byte} (h : ps ++ qs = txFrame bs)
    (hps : ps ≠ []) (hqs : qs ≠ []) : ∃ as : List Byte, ps = .txBegin :: as.map .txByte := by
  obtain ⟨i, ps, rfl⟩ := List.exists_cons_of_ne_nil hps
  obtain ⟨qs, j, rfl⟩ := (List.eq_nil_or_concat qs).resolve_left hqs
  obtain ⟨rfl, htail⟩ : i = .txBegin ∧ ps ++ (qs ++ [j]) = bs.map .txByte ++ [.txEnd] := by
    simpa [txFrame] using h
  rw [← List.append_assoc] at htail
  obtain ⟨as, -, -, rfl, -⟩ := List.map_eq_append_iff.mp (List.append_inj_left' htail rfl).symm
  exact ⟨as, rfl⟩

end

/-- Settles O46: the transmission alone, for the whole list and for each first part, and then what is interleaved. -/
theorem transmittedFrameCarriesItsCrc : Obligations.TransmittedFrameCarriesItsCrc := by
  intro s bs cs hen hcs hreset
  obtain ⟨v, outs, hr, hwire, hend⟩ := runCommands_txFrame hen bs
  obtain ⟨t, outs', hr', hwire', hend'⟩ := runCommands_of_filter_isTransmit hreset rfl (hcs ▸ hr)
  rw [hwire] at hwire'
  refine ⟨t, outs', hr', hwire', hwire' ▸ verify_append_crc bs, hend'.trans hend, ?_⟩
  rintro ps qs rfl hbegin hfinish
  have hcut : ps.filter isTransmit ++ qs.filter isTransmit = txFrame bs := by rw [← List.filter_append, hcs]
  have hbegun : ps.filter isTransmit ≠ [] := List.ne_nil_of_mem (List.mem_filter.mpr ⟨hbegin, rfl⟩)
  have hunfinished : qs.filter isTransmit ≠ [] := List.ne_nil_of_mem (List.mem_filter.mpr ⟨hfinish, rfl⟩)
  obtain ⟨as, hps⟩ := openTransmission_of_append_eq_txFrame hcut hbegun hunfinished
  obtain ⟨w, outs₁, hopen, -, hup, -⟩ := runCommands_openTransmission hen as
  have hreset' : Instr.reset ∉ ps := mt (List.mem_append_left qs) hreset
  obtain ⟨x, os, hx, -, hen'⟩ := runCommands_of_filter_isTransmit hreset' rfl (hps ▸ hopen)
  exact ⟨x, os, hx, hen'.trans hup⟩

/-! ### The receive side on its own (43_transmit.md R166, 41_crc_engine.md R117)

States that agree on the receive side differ in the stream, the CRC port, the transmit side and the wired bytes only.
The operations of the receive side commute with giving a state those of another. -/

/-- `s` with the stream, the CRC port and the transmit side of `o`; the outputs of the last step stay those of `s`. -/
def withOtherSides (o s : State) : State :=
  { s with stream := o.stream, crcAcc := o.crcAcc, txCrc := o.txCrc, txEn := o.txEn }

theorem receiveSide_withOtherSides (o s : State) : receiveSide (withOtherSides o s) = receiveSide s := rfl

theorem beginStep_eq_withOtherSides {s u : State} (h : receiveSide (beginStep s) = receiveSide (beginStep u)) :
    beginStep u = withOtherSides u (beginStep s) := by
  simp only [receiveSide, beginStep, ReceiveSide.mk.injEq] at h
  obtain ⟨hcfg, -, hfsm, hlen, hovf, hbuf, h15, h35, hrun⟩ := h
  simp only [beginStep, withOtherSides, hcfg, hfsm, hlen, hovf, hbuf, h15, h35, hrun]

section
variable (o : State) (d : Byte) (a : Bool) (s : State)

@[simp] theorem withOtherSides_fsm : (withOtherSides o s).fsm = s.fsm := rfl

theorem append_withOtherSides : append d (withOtherSides o s) = withOtherSides o (append d s) := by
  unfold append
  rw [apply_dite (withOtherSides o)]
  rfl

theorem acceptByte_withOtherSides : acceptByte d (withOtherSides o s) = withOtherSides o (acceptByte d s) := by
  unfold acceptByte
  rw [withOtherSides_fsm, append_withOtherSides]
  split <;> rfl

theorem t15Fire_withOtherSides : t15Fire (withOtherSides o s) = withOtherSides o (t15Fire s) := by
  unfold t15Fire
  rw [withOtherSides_fsm]
  split <;> rfl

theorem t35Fire_withOtherSides : t35Fire (withOtherSides o s) = withOtherSides o (t35Fire s) := by
  unfold t35Fire
  rw [withOtherSides_fsm, emitOrDiscard_eq, emitOrDiscard_eq]
  split <;> rfl

theorem tickT15_withOtherSides : tickT15 a (withOtherSides o s) = withOtherSides o (tickT15 a s) := by
  unfold tickT15
  rw [apply_ite (withOtherSides o), apply_ite (withOtherSides o), ← t15Fire_withOtherSides]
  rfl

theorem tickT35_withOtherSides : tickT35 a (withOtherSides o s) = withOtherSides o (tickT35 a s) := by
  unfold tickT35
  rw [apply_ite (withOtherSides o), apply_ite (withOtherSides o), ← t35Fire_withOtherSides]
  rfl

end

/-- The commands of the receive side but `RESET`, which writes all three sides. -/
theorem exec_withOtherSides {i : Instr} {o s t : State} (hi : isReceive i = true) (hreset : i ≠ .reset)
    (h : exec i s = .next t) : exec i (withOtherSides o s) = .next (withOtherSides o t) := by
  cases i with
  | rxByte d =>
    rw [exec_rxByte] at h ⊢
    cases h
    rw [apply_ite (withOtherSides o), ← acceptByte_withOtherSides]
    rfl
  | tick =>
    rw [exec_tick] at h ⊢
    cases h
    rw [← tickT35_withOtherSides, ← tickT15_withOtherSides]
    rfl
  | t15Expire =>
    rw [exec_t15Expire] at h ⊢
    cases h
    rw [apply_ite (withOtherSides o), ← t15Fire_withOtherSides]
    rfl
  | t35Expire =>
    rw [exec_t35Expire] at h ⊢
    cases h
    rw [apply_ite (withOtherSides o), ← t35Fire_withOtherSides]
    rfl
  | stop =>
    cases h
    rfl
  | reset => exact absurd rfl hreset
  | crcInit | crcByte _ | txBegin | txByte _ | txEnd | txAbort => cases hi

/-- A command of the transmit side or the CRC port emits nothing and leaves the receive side as it is. -/
theorem exec_receiveSide_eq_beginStep {i : Instr} {s t : State} (hi : isReceive i = false) (h : exec i s = .next t) :
    receiveSide t = receiveSide (beginStep s) := by
  have hsilent : t.out.frameOut = none := Option.eq_none_iff_forall_ne_some.mpr fun f hf => by
    obtain ⟨rfl | rfl, -⟩ := exec_emits h hf <;> cases hi
  rw [← exec_receiveSide_eq hi h]
  simp [receiveSide, hsilent]

/-- Settles O50: a command of another side leaves the receive side as it is, and one of the receive side leads from
states that differ in the other sides to such states again; `RESET` writes the other sides but reads none. -/
theorem receiveSideIgnoresTransmitAndPort : Obligations.ReceiveSideIgnoresTransmitAndPort := by
  intro i s u t v hsu ht hv
  cases hi : isReceive i with
  | false => rw [exec_receiveSide_eq_beginStep hi ht, exec_receiveSide_eq_beginStep hi hv, hsu]
  | true =>
    rw [← exec_beginStep] at ht hv
    rw [beginStep_eq_withOtherSides hsu] at hv
    by_cases hreset : i = .reset
    · subst hreset
      cases ht
      cases hv
      rfl
    · rw [exec_withOtherSides hi hreset ht] at hv
      cases hv
      exact (receiveSide_withOtherSides u t).symm

end Sys2Proof.Machine

/-! ## Control: what `STOP` and `RESET` leave, and the block at rest (44_control.md R175 to R177) -/

namespace Sys2Proof.Machine

/-! ### The stopped block (44_control.md R176)

A stopped block is in the idle phase, and there every command of the receive side but `RESET` only clears the outputs
of the step before. The other commands never touch the receive side, so it stays as `STOP` left it. -/

/-- The block is stopped and nothing is being received. -/
structure State.Stopped (s : State) : Prop where
  run : s.run = false
  idle : s.IdlePhase

section
variable {s t : State}

theorem exec_stop_stopped (h : exec .stop s = .next t) : t.Stopped := by
  rw [exec_stop] at h
  cases h
  exact ⟨rfl, rfl, rfl, rfl, rfl, rfl⟩

/-- Being stopped is a matter of the receive side only, and not of its output. -/
theorem State.Stopped.of_receiveSide_eq (h : s.Stopped) (e : receiveSide t = receiveSide (beginStep s)) :
    t.Stopped := by
  simp only [receiveSide, ReceiveSide.mk.injEq] at e
  obtain ⟨-, -, hfsm, hlen, hovf, -, h15, h35, hrun⟩ := e
  obtain ⟨hrun', hfsm', hlen', hovf', h15', h35'⟩ := h
  exact ⟨hrun.trans hrun', hfsm.trans hfsm', (congrArg Fin.val hlen).trans hlen', hovf.trans hovf',
    h15.trans h15', h35.trans h35'⟩

/-- `STOP` writes what a stopped block already holds. -/
theorem exec_stop_of_stopped (h : s.Stopped) : exec .stop s = .next (beginStep s) := by
  obtain ⟨hrun, hfsm, hlen, hovf, h15, h35⟩ := h
  have hlen' : s.len = 0 := Fin.ext hlen
  cases s
  subst hrun hfsm hlen' hovf h15 h35
  rfl

/-- A stopped block drops bytes, and with neither timer armed every expiry is stale and a tick counts nothing. -/
theorem State.Stopped.exec_inert (h : s.Stopped) {i : Instr} (hi : isReceive i = true) (hreset : i ≠ .reset) :
    exec i s = .next (beginStep s) := by
  have h15 : s.t15.armed = false := by rw [h.idle.t15]; rfl
  have h35 : s.t35.armed = false := by rw [h.idle.t35]; rfl
  cases i with
  | rxByte d => exact exec_rxByte_of_stopped d h.run
  | tick => exact tickWithNoTimerArmedChangesNothing s h15 h35
  | t15Expire => exact exec_t15Expire_stale h15
  | t35Expire => exact exec_t35Expire_stale h35
  | stop => exact exec_stop_of_stopped h
  | reset => exact absurd rfl hreset
  | crcInit | crcByte _ | txBegin | txByte _ | txEnd | txAbort => cases hi

/-- A command of any family but `RESET` emits nothing and leaves the receive side of a stopped block as it is. -/
theorem State.Stopped.receiveSide_eq (h : s.Stopped) {i : Instr} (hreset : i ≠ .reset) (he : exec i s = .next t) :
    receiveSide t = receiveSide (beginStep s) := by
  cases hi : isReceive i with
  | false => exact exec_receiveSide_eq_beginStep hi he
  | true =>
    rw [h.exec_inert hi hreset] at he
    cases he
    rfl

/-- A stopped block stays stopped over every stream without `RESET`, and no frame comes out of it. -/
theorem State.Stopped.run_silent (h : s.Stopped) {cs : List Instr} (hreset : Instr.reset ∉ cs) :
    ∃ u outs, runCommands cs s = some (u, outs) ∧ framesOf outs = [] ∧ u.Stopped := by
  induction cs generalizing s with
  | nil => exact ⟨s, [], rfl, rfl, h⟩
  | cons i is ih =>
    obtain ⟨hi, his⟩ := not_or.mp (mt List.mem_cons.mpr hreset)
    obtain ⟨t, he⟩ := everyCommandCompletesInEveryState i s
    have hside := h.receiveSide_eq (Ne.symm hi) he
    have hsilent : t.out.frameOut = none := congrArg ReceiveSide.frameOut hside
    have hstopped : t.Stopped := h.of_receiveSide_eq hside
    obtain ⟨u, outs, hr, hframes, hu⟩ := ih hstopped his
    exact ⟨u, _, runCommands_cons he hr, by simp [framesOf_cons, hsilent, hframes], hu⟩

end

/-- Settles O49: `STOP` leaves a stopped block, and every stream without `RESET` keeps it so. -/
theorem stoppedBlockStaysSilent : Obligations.StoppedBlockStaysSilent := by
  intro s t cs h hreset
  obtain ⟨u, outs, hr, hframes, ⟨hrun, hidle⟩⟩ := (exec_stop_stopped h).run_silent hreset
  exact ⟨u, outs, hr, hframes, hrun, hidle.fsm, hidle.len, hidle.ovf, hidle.t15, hidle.t35⟩

/-- Settles O47: the registers `STOP` writes, and the commands that do nothing to the stopped block it leaves. -/
theorem stopTearsTheReceiveSideDown : Obligations.StopTearsTheReceiveSideDown := by
  intro s
  obtain ⟨t, he⟩ := everyCommandCompletesInEveryState .stop s
  have hout : t.out = Output.none := by
    cases he
    rfl
  have hinert {i : Instr} (hi : isReceive i = true) (hreset : i ≠ .reset) : exec i t = .next t := by
    rw [(exec_stop_stopped he).exec_inert hi hreset, beginStep_of_no_output hout]
  exact ⟨t, he, by cases he; rfl, fun d => hinert rfl nofun, hinert rfl nofun, hinert rfl nofun, hinert rfl nofun,
    hinert rfl nofun⟩

/-! ### `RESET` (44_control.md R175) -/

/-- Settles O48: the equation of `RESET`, with what its updates write. -/
theorem resetConstructsTheInstanceAnew : Obligations.ResetConstructsTheInstanceAnew := exec_reset

/-! ### Waiting (44_control.md R177) -/

/-- Settles O7: the fetch finds nothing, and the step only clears the outputs. -/
theorem stepWaitsWhenNothingIsPresented : Obligations.StepWaitsWhenNothingIsPresented := by
  intro s hc hs
  simp only [step, fetch_nothing hc hs]
  rfl

end Sys2Proof.Machine

/-! ## Framing errors (60_exceptions.md R185, R186, R191) -/

namespace Sys2Proof.Machine

/-! ### A t3.5 expiry that raises one (42_rtu_framer.md R140, R142) -/

section
variable {s : State} {c : FramingError}

theorem t35Cause_eq_some_iff :
    t35Cause s = some c ↔ s.fsm = .frameReady ∧ frameCause (frameBytes s) s.ovf = some c := by
  rw [t35Cause, Option.ite_none_right_eq_some]

/-- `GapByte` is no outcome of validation. -/
theorem t35Cause_ne_gapByte : t35Cause s ≠ some .gapByte := fun h =>
  (validationChecksOverrunLengthCrc (frameBytes s) s.ovf).2.2.2.2 (t35Cause_eq_some_iff.mp h).2

/-- A failed validation ends in `Idle` with nothing emitted. -/
theorem t35Fire_of_cause (hout : s.out = Output.none) (h : t35Cause s = some c) :
    t35Fire s = { s with out := Output.none, fsm := .idle, len := 0, ovf := false, t35 := Timer.off } := by
  obtain ⟨hf, hcause⟩ := t35Cause_eq_some_iff.mp h
  have hinvalid : frameValid (frameBytes s) s.ovf = false := by simp [frameValid, hcause]
  obtain ⟨-, e⟩ | ⟨herror, -⟩ | ⟨hother, -⟩ := t35Fire_cases s
  · rw [e, hinvalid, hout]
    rfl
  · cases hf.symm.trans herror
  · obtain h | h := hother <;> cases hf.symm.trans h

end

/-! ### A `TICK` that raises one (40_timing_unit.md R98) -/

section
variable {s : State}

/-- The t1.5 half leaves everything but `STATE` and the two timers. -/
theorem tickMiddle_eq (s : State) : tickMiddle s =
    { s with out := Output.none, fsm := (tickMiddle s).fsm, t15 := (tickMiddle s).t15, t35 := (tickMiddle s).t35 } := by
  obtain ⟨-, e⟩ | ⟨-, -, e⟩ | ⟨-, -, e⟩ := tickT15_cases s.t15.armed (beginStep s)
  · rw [tickMiddle, e]
    rfl
  · rw [tickMiddle, e]
    rfl
  · rw [tickMiddle, e]
    obtain ⟨-, e⟩ | ⟨-, e⟩ := t15Fire_cases (countT15 (beginStep s)) <;> (rw [e]; rfl)

theorem tickMiddle_t15 (s : State) : (tickMiddle s).t15 =
    if s.t15.armed = true then
      if s.t15.count = 1 then Timer.off else { armed := true, count := s.t15.count - 1 }
    else s.t15 := by
  rw [tickMiddle]
  cases ha : s.t15.armed with
  | false => rfl
  | true =>
    by_cases hone : s.t15.count = 1
    · rw [tickT15_fires (s := beginStep s) hone, t15Fire_t15, if_pos rfl, if_pos hone]
    · rw [tickT15_counts (s := beginStep s) ha hone, if_pos rfl, if_neg hone]
      rfl

/-- The t3.5 half validates the frame that the state before the `TICK` holds. -/
theorem t35Cause_tickMiddle (s : State) : t35Cause (tickMiddle s) =
    if (tickMiddle s).fsm = .frameReady then frameCause (frameBytes s) s.ovf else none := by
  have hcontent : frameBytes (tickMiddle s) = frameBytes s := by
    rw [tickMiddle_eq]
    rfl
  have hovf : (tickMiddle s).ovf = s.ovf := by rw [tickMiddle_eq]
  rw [t35Cause, hcontent, hovf]

theorem tickFiresT35_iff (s : State) : tickFiresT35 s = true ↔
    s.t35.armed = true ∧ (tickMiddle s).t35.armed = true ∧ (tickMiddle s).t35.count = 1 := by
  simp only [tickFiresT35, Bool.and_eq_true, beq_iff_eq, and_assoc]
  exact and_congr_right' (and_congr_right' (count_sub_one_eq_zero_iff _))

theorem exec_tick_of_firesT35 (h : tickFiresT35 s = true) : exec .tick s = .next (t35Fire (tickMiddle s)) := by
  obtain ⟨ha, ha', hone⟩ := (tickFiresT35_iff s).mp h
  rw [exec_tick, ha, ← tickMiddle, tickT35_fires ha' hone]

/-- A `T35` that the t1.5 half arms does not fire in the same `TICK`, so the state before it decides. -/
theorem tick_validates_iff (hc : configLegal s.cfg = true) :
    (tickFiresT35 s = true ∧ (tickMiddle s).fsm = .frameReady) ↔
      s.t35.armed = true ∧ s.t35.count = 1 ∧ s.fsm = .frameReady := by
  rw [tickFiresT35_iff, tickMiddle]
  obtain ⟨⟨-, -, hreceiving⟩, -, h35⟩ | ⟨-, hf, h35⟩ := tickT15_fsm_t35_cases (beginStep s) s.t15.armed
  · have hload : (tickT15 s.t15.armed (beginStep s)).t35.count ≠ 1 := h35 ▸ t35_load_count_ne_one hc
    have hnot : s.fsm ≠ .frameReady := fun hf => by cases hf.symm.trans hreceiving
    simp only [hload, hnot, and_false, false_and]
  · rw [hf, h35]
    simp [and_assoc]

end

/-! ### The causes by command (60_exceptions.md R185) -/

section
variable {i : Instr} {s : State} {c : FramingError} {d : Byte}

theorem discardCause_rxByte : discardCause (.rxByte d) s =
    if s.run = true ∧ s.fsm = .frameReady then some .gapByte else none := by
  simp [discardCause]

theorem discardCause_t35Expire : discardCause .t35Expire s =
    if s.t35.armed = true ∧ s.fsm = .frameReady then frameCause (frameBytes s) s.ovf else none :=
  (ite_and _ _ _ _).symm

theorem discardCause_tick (hc : configLegal s.cfg = true) : discardCause .tick s =
    if s.t35.armed = true ∧ s.t35.count = 1 ∧ s.fsm = .frameReady then frameCause (frameBytes s) s.ovf else none := by
  rw [discardCause, t35Cause_tickMiddle, ← ite_and, if_congr (tick_validates_iff hc) rfl rfl]

theorem discardCause_t35Expire_eq_some_iff :
    discardCause .t35Expire s = some c ↔ s.t35.armed = true ∧ t35Cause s = some c :=
  Option.ite_none_right_eq_some

theorem discardCause_tick_eq_some_iff :
    discardCause .tick s = some c ↔ tickFiresT35 s = true ∧ t35Cause (tickMiddle s) = some c :=
  Option.ite_none_right_eq_some

/-- The commands that raise a `FramingError`, each with its cause and the state that it is found in. -/
theorem discardCause_cases (h : discardCause i s = some c) :
    (∃ d, i = .rxByte d ∧ c = .gapByte ∧ s.run = true ∧ s.fsm = .frameReady) ∨
    (i = .tick ∧ tickFiresT35 s = true ∧ t35Cause (tickMiddle s) = some c) ∨
    (i = .t35Expire ∧ s.t35.armed = true ∧ t35Cause s = some c) := by
  cases i with
  | rxByte d =>
    rw [discardCause_rxByte, Option.ite_none_right_eq_some] at h
    obtain ⟨⟨hrun, hf⟩, hc⟩ := h
    exact .inl ⟨d, rfl, (Option.some.inj hc).symm, hrun, hf⟩
  | tick => exact .inr (.inl ⟨rfl, discardCause_tick_eq_some_iff.mp h⟩)
  | t35Expire => exact .inr (.inr ⟨rfl, discardCause_t35Expire_eq_some_iff.mp h⟩)
  | t15Expire | crcInit | crcByte _ | txBegin | txByte _ | txEnd | txAbort | stop | reset => cases h

end

/-! ### The discards (60_exceptions.md R186) -/

section
variable {s : State} {c : FramingError}

theorem exec_t35Expire_of_cause (ha : s.t35.armed = true) (h : t35Cause s = some c) :
    exec .t35Expire s =
      .next { s with out := Output.none, fsm := .idle, len := 0, ovf := false, t35 := Timer.off } := by
  rw [exec_t35Expire_of_armed ha, t35Fire_of_cause (s := beginStep s) rfl h]
  rfl

theorem exec_tick_of_cause (hfires : tickFiresT35 s = true) (h : t35Cause (tickMiddle s) = some c) :
    exec .tick s = .next { s with
      out := Output.none, fsm := .idle, len := 0, ovf := false, t15 := (tickMiddle s).t15, t35 := Timer.off } := by
  have hout : (tickMiddle s).out = Output.none := by rw [tickMiddle_eq]
  rw [exec_tick_of_firesT35 hfires, t35Fire_of_cause hout h, tickMiddle_eq s]

end

/-- Settles O34: the causes by command, and the state that the command with each cause leaves. -/
theorem framingErrorsOnlyDiscard : Obligations.FramingErrorsOnlyDiscard := by
  refine ⟨fun s d => discardCause_rxByte, fun s => discardCause_t35Expire, fun s hc => discardCause_tick hc,
    fun s ha hf => ?_, fun i s c h => ?_, fun i s h => ?_, fun i s c h hc => ?_⟩
  · obtain ⟨-, hoverrun, hshort, hcrc, -⟩ := validationChecksOverrunLengthCrc (frameBytes s) s.ovf
    rw [frameBytes_length] at hshort hcrc
    rw [discardCause_t35Expire, if_pos ⟨ha, hf⟩]
    exact ⟨hoverrun, hshort, hcrc⟩
  · obtain ⟨d, hi, -⟩ | ⟨hi, -⟩ | ⟨hi, -⟩ := discardCause_cases h
    · exact .inl ⟨d, hi⟩
    · exact .inr (.inl hi)
    · exact .inr (.inr hi)
  · obtain ⟨d, rfl, -, hrun, hf⟩ | ⟨-, -, hcause⟩ | ⟨-, -, hcause⟩ := discardCause_cases h
    · obtain ⟨⟨t, he, hread, ht⟩, -⟩ := rxByteStartsAFrame s d hrun (.inr (.inl hf))
      exact ⟨d, t, rfl, he, hread, ht⟩
    · exact absurd hcause t35Cause_ne_gapByte
    · exact absurd hcause t35Cause_ne_gapByte
  · obtain ⟨-, -, hgap, -⟩ | ⟨rfl, hfires, hcause⟩ | ⟨rfl, ha, hcause⟩ := discardCause_cases h
    · exact absurd hgap hc
    · refine ⟨_, exec_tick_of_cause hfires hcause, ?_⟩
      simp [tickMiddle_t15, Timer.off]
    · refine ⟨_, exec_t35Expire_of_cause ha hcause, ?_⟩
      simp [Timer.off]

end Sys2Proof.Machine

/-! ## Runs of the machine and the block at rest (70_reset_and_hazards.md R214, R220) -/

namespace Sys2Proof.Machine

/-! ### The presented stream is no operand (10_state.md R23)

A command on the state with another stream does what it does on the state itself. -/

section
variable {i : Instr} {s t : State}

/-- Of the other sides, reception and the time base keep all but the stream. -/
theorem ReceivesOnly.withOtherSides_setStream (h : ReceivesOnly (beginStep s) t) (ws : List Word) :
    withOtherSides (setStream ws s) t = setStream ws t := by
  simp only [withOtherSides, setStream, h.crcAcc, h.txCrc, h.txEn, beginStep_crcAcc, beginStep_txCrc, beginStep_txEn]

theorem exec_setStream (ws : List Word) (h : exec i s = .next t) :
    exec i (setStream ws s) = .next (setStream ws t) := by
  cases i with
  | rxByte _ | tick | t15Expire | t35Expire =>
    rw [← (exec_receivesOnly h rfl nofun nofun).withOtherSides_setStream ws]
    exact exec_withOtherSides (o := setStream ws s) rfl nofun h
  | txBegin | txByte _ | txEnd =>
    simp only [exec_txBegin, exec_txByte, exec_txEnd] at h ⊢
    cases h
    rw [apply_ite (setStream ws)]
    rfl
  | crcInit | crcByte _ | txAbort | stop | reset =>
    cases h
    rfl

end

/-! ### Steps and runs (70_reset_and_hazards.md R214) -/

section
variable {s t : State}

theorem core_run_succ (h : step s = .next t) (n : Nat) :
    Host.Core.run Sys2Proof.core (n + 1) s = Host.Core.run Sys2Proof.core n t := by
  simp only [Host.Core.run, Sys2Proof.core, h]

/-- A step over a presented command does what the command does under any stream, and leaves the words behind it. -/
theorem step_encode {i : Instr} {vs ws : List Word} (hc : configLegal s.cfg = true) (hs : s.stream = encode i :: ws)
    (h : exec i (setStream vs s) = .next t) : step s = .next (setStream ws t) :=
  (stepExecutesTheDecodedCommand s _ ws i hc hs (decode_encode i)).trans
    (exec_setStream (s := setStream vs s) ws h)

/-- Between two steps the commands still to come stand ahead of `rest`; the run sees `rest` alone throughout. -/
theorem core_run_of_runCommands {cs : List Instr} {rest : List Word} {outs : List Output}
    (hc : configLegal s.cfg = true) (hs : s.stream = cs.map encode ++ rest)
    (hrun : runCommands cs (setStream rest s) = some (t, outs)) :
    Host.Core.run Sys2Proof.core cs.length s = .next t := by
  induction cs generalizing s outs with
  | nil =>
    cases hs
    cases hrun
    rfl
  | cons i is ih =>
    obtain ⟨u, outs', he, hr, -⟩ := runCommands_cons_inv hrun
    obtain ⟨hcfg, hstream⟩ := commandsKeepConfigurationAndStream i _ u he
    have hstep : step s = .next (setStream (is.map encode ++ rest) u) := step_encode hc hs he
    have hcu : configLegal u.cfg = true := by rwa [hcfg]
    have hu : setStream rest u = u := by
      rw [← setStream_stream s rest, ← hstream]
      rfl
    rw [List.length_cons, core_run_succ hstep]
    exact ih hcu rfl (hu.symm ▸ hr)

end

/-- Settles O9: the run completes, and the steps follow it. -/
theorem stepsFollowTheStream : Obligations.StepsFollowTheStream := by
  intro cs s rest hc hs
  obtain ⟨t, outs, hrun⟩ := runCommands_completes cs (setStream rest s)
  exact ⟨t, outs, hrun, core_run_of_runCommands hc hs hrun⟩

/-! ### The block at rest (70_reset_and_hazards.md R214) -/

/-- Settles O57: the second invariant of 10_state.md R27, which every reachable state meets. -/
theorem quiescentMeansNothingPending : Obligations.QuiescentMeansNothingPending := by
  intro c t hreach ⟨hidle, hen⟩
  obtain ⟨hlen, hovf, h15, h35⟩ := (reachableStatesMeetTheInvariants c t hreach).idleEmpty hidle
  exact ⟨h15, h35, hlen, hovf, hen⟩

end Sys2Proof.Machine
